-- ==== Sys2Proof/Word.lean ====
section
/-! DEFINITION. The words of FC: bytes, byte sequences and 32-bit channel ids (spec/00_scope.md R7, R8;
spec/20_memory.md R57). -/

namespace Sys2Proof

/-- A byte (R7: "a natural number 0 to 255"). -/
abbrev Byte := BitVec 8

/-- A byte sequence, index 0 first (R7). -/
abbrev Bytes := List Byte

/-- A channel id (R11: "32-bit handle identifying a logical session"). -/
abbrev ChannelId := BitVec 32

end Sys2Proof
end

