-- ==== Sys2Proof/Config.lean ====
section
/-! DEFINITION. The parameters the spec leaves open (spec/00_scope.md R6; spec/92_eei_decisions.md D5, D10, D20), as
plain data. Their default values stand in Machine/Layout.lean. -/

namespace Sys2Proof

/-- The eleven ErrorCode values, in the spec's order (spec/10_state.md R27). -/
inductive ErrorCode where
  | none
  | invalidCommand
  | invalidParameter
  | invalidMessageLength
  | invalidMessageSequencing
  | messageTimeout
  | channelBusy
  | channelRequiresLock
  | syncCommandFailed
  | unspecified
  | unknown
  deriving DecidableEq, Repr

/-- The three open parameters of R6. `errTable` lists the code bytes with a meaning of their own; a byte it does not
list means `ErrorCode.unknown` (decision D10), so every total map from bytes to ErrorCode is some `errTable`. -/
structure Config where
  /-- `RX_MAX`: the longest buffer the transport delivers; no rule of DEC tests it. -/
  rxMax : Nat
  /-- `RX_MAX` is a "natural, ≥ 7" (R6): the transport can deliver a header. -/
  seven_le_rxMax : 7 ≤ rxMax
  /-- `ERRMAP`, as the list of its bytes that do not map to Unknown. -/
  errTable : List (Byte × ErrorCode)
  /-- `PLEN_BITS`: the width of a hardware length port; no comparison of a rule wraps at it. -/
  plenBits : Nat
  deriving DecidableEq, Repr

end Sys2Proof
end

