-- ==== Sys2Proof/Machine/Types.lean ====
section
/-! DEFINITION. The plain data types of FC beside its operations: the variants of a response, the frame stage's result,
the two fault bits and what stands at the command port. -/

namespace Sys2Proof

/-- The content of a state element: a value, or "no value", which "is not zero and not a stale value"
(spec/10_state.md R30). -/
abbrev Held (α : Type) := Option α

/-- The variant tag `R_VAR` holds (spec/10_state.md R24). -/
inductive Variant where
  | unknown
  | init
  | message
  | error
  deriving DecidableEq, Repr

/-- The variant PDEC yields, with its data (spec/41_payload_decoder.md R130). -/
inductive PayloadVariant where
  | init (nonce : Bytes) (cid : ChannelId) (proto major minor build caps : Byte)
  | message (data : Bytes) (sw1 sw2 : Byte)
  | error (code : ErrorCode)
  | unknown
  deriving DecidableEq, Repr

/-- What FDEC yields: `(cid, cmd, dlen, region)` (spec/40_frame_codec.md R110, R112 to R114). -/
structure FrameStage where
  cid : ChannelId
  cmd : Byte
  dlen : BitVec 16
  /-- The payload region; `none` when it is absent. -/
  region : Option Bytes
  deriving DecidableEq, Repr

/-- The source's ResponseFrame, a projection of the state (spec/10_state.md R34). -/
structure ResponseFrame where
  channelId : ChannelId
  payload : PayloadVariant
  deriving DecidableEq, Repr

/-- The two faults of FC (spec/60_exceptions.md R160). -/
inductive FaultCode where
  | encOverlen
  | decShort
  deriving DecidableEq, Repr

/-- What stands at FC's input for one step. The host's own commands are `host`: the two bits of `OP` and the operand
ports (spec/30_encoding.md R83, spec/10_state.md R32). DESIGN CHOICE (log 3): `payload` and `errCode` put a value on the
selecting field of the CMD8 and ERR8 rows of the opcode table, which in FC are stages inside DEC (R130: "a model may
expose PDEC on its own"). -/
inductive Request where
  | host (op : BitVec 2) (cid : ChannelId) (cmd : Byte) (payload raw : Bytes)
  | payload (cmd : Byte) (region : Option Bytes)
  | errCode (code : Byte)
  deriving DecidableEq, Repr

end Sys2Proof
end

