-- ==== Sys2Proof/Machine/Layout.lean ====
section
/-! DEFINITION. The constants of spec/00_scope.md R5, the default parameters of R6 and the default error-code map of
spec/30_encoding.md R79. -/

namespace Sys2Proof.Machine

/-- `TX_LEN`: bytes of the serialized request report (R5). -/
@[simp] abbrev txLen : Nat := 65

/-- `REPORT_LEN`: bytes of the fixed report after the report-id byte (R5). -/
@[simp] abbrev reportLen : Nat := 64

/-- `REPORT_ID`: byte 0 of the transmit report (R5). -/
@[simp] abbrev reportId : Byte := 0x00#8

/-- `TX_HDR`: bytes before the payload in the transmit report (R5). -/
@[simp] abbrev txHdr : Nat := 8

/-- `RX_HDR`: bytes before the payload region in a received report (R5). -/
@[simp] abbrev rxHdr : Nat := 7

/-- `MAX_PAYLOAD`: the largest payload ENC accepts, `TX_LEN − TX_HDR` (R5). -/
@[simp] abbrev maxPayload : Nat := 57

/-- `CMD_INIT`: command byte U2FHID_INIT (R5). -/
@[simp] abbrev cmdInit : Byte := 0x86#8

/-- `CMD_MSG`: command byte U2FHID_MSG (R5). -/
@[simp] abbrev cmdMsg : Byte := 0x83#8

/-- `CMD_ERROR`: command byte U2FHID_ERROR (R5). -/
@[simp] abbrev cmdError : Byte := 0xBF#8

/-- `INIT_MIN`: least region length of an InitPayload (R5). -/
@[simp] abbrev initMin : Nat := 17

/-- `MSG_MIN`: least region length of a MessagePayload (R5). -/
@[simp] abbrev msgMin : Nat := 2

/-- `SW_OK`: the status-byte pair that means success (R5). -/
@[simp] abbrev swOk : Byte × Byte := (0x90#8, 0x00#8)

/-- `CID_BROADCAST`: reserved for the host's INIT; FC does not treat it specially (R5, spec/30_encoding.md R85). -/
@[simp] abbrev cidBroadcast : ChannelId := 0xFFFFFFFF#32

/-- `CAPABILITY_NMSG`: the bit of the capability byte the host reads, not FC (R5, spec/30_encoding.md R86). -/
@[simp] abbrev capabilityNmsg : Byte := 0x08#8

/-- The default `ERRMAP` (R79). PRESUMED: the spec marks these byte values as general knowledge (entry G1); log 7. -/
def defaultErrTable : List (Byte × ErrorCode) :=
  [(0x00#8, .none), (0x01#8, .invalidCommand), (0x02#8, .invalidParameter), (0x03#8, .invalidMessageLength),
   (0x04#8, .invalidMessageSequencing), (0x05#8, .messageTimeout), (0x06#8, .channelBusy),
   (0x0A#8, .channelRequiresLock), (0x0B#8, .syncCommandFailed), (0x7F#8, .unspecified)]

/-- `ERRMAP` as a map (R79): total, and a byte with no listed meaning is Unknown (decision D10). -/
def errMap (table : List (Byte × ErrorCode)) (code : Byte) : ErrorCode :=
  (table.lookup code).getD .unknown

/-- The default parameters of R6. -/
def defaultConfig : Config :=
  { rxMax := 64, seven_le_rxMax := by decide, errTable := defaultErrTable, plenBits := 16 }

end Sys2Proof.Machine
end

