-- ==== Sys2Proof/Syntax.lean ====
section
/-! DEFINITION. The operations of FC: one constructor per row of spec/opcode_table.json. -/

namespace Sys2Proof

/-- One constructor per row of the opcode table: the four host commands (format HOSTCMD, spec/30_encoding.md R83), the
five arms of the payload stage (format CMD8, R77, R78) and the eleven rows of the error-code map (format ERR8, R79).
The payload stage and the error-code map run inside DEC; R130 lets a model expose the payload stage on its own. -/
inductive Instr where
  /-- `OP = 00`, no operation (R181). -/
  | idle
  /-- `ENC cid cmd payload` (R100 to R107). -/
  | enc (cid : ChannelId) (cmd : Byte) (payload : Bytes)
  /-- `DEC raw` (R110 to R121). -/
  | dec (raw : Bytes)
  /-- `RST` (R180). -/
  | rst
  /-- PD.UNKNOWN, arm (a): the region is absent, whatever the command byte (R139). -/
  | pdUnknownAbsent (cmd : Byte)
  /-- PD.INIT: command byte 0x86 with a present region (R132). -/
  | pdInit (region : Bytes)
  /-- PD.MSG: command byte 0x83 with a present region (R134). -/
  | pdMsg (region : Bytes)
  /-- PD.ERROR: command byte 0xBF with a present region (R136). -/
  | pdError (region : Bytes)
  /-- PD.UNKNOWN, arms (b) to (d): a present region that no other row selects (R139). -/
  | pdUnknownOther (cmd : Byte) (region : Bytes)
  /-- Error-code row None (R79). -/
  | errNone
  /-- Error-code row InvalidCommand (R79). -/
  | errInvalidCommand
  /-- Error-code row InvalidParameter (R79). -/
  | errInvalidParameter
  /-- Error-code row InvalidMessageLength (R79). -/
  | errInvalidMessageLength
  /-- Error-code row InvalidMessageSequencing (R79). -/
  | errInvalidMessageSequencing
  /-- Error-code row MessageTimeout (R79). -/
  | errMessageTimeout
  /-- Error-code row ChannelBusy (R79). -/
  | errChannelBusy
  /-- Error-code row ChannelRequiresLock (R79). -/
  | errChannelRequiresLock
  /-- Error-code row SyncCommandFailed (R79). -/
  | errSyncCommandFailed
  /-- Error-code row Unspecified (R79). -/
  | errUnspecified
  /-- Error-code row Unknown, the catch-all: a code byte no other row lists (R79). -/
  | errUnknown (code : Byte)
  deriving DecidableEq, Repr

end Sys2Proof
end

