-- ==== Sys2Proof/WellFormed.lean ====
section
/-! DEFINITION. When an instruction is one the opcode table's rows select: the `when` conditions of
spec/opcode_table.json on the operands. -/

namespace Sys2Proof

open Sys2Proof.Machine

/-- The `when` condition of the instruction's row, on its own operands. A host command has none: every operand is
accepted (spec/40_frame_codec.md R100, R105, R110). -/
def Instr.wellFormed : Instr → Bool
  | .pdInit region => decide (initMin ≤ region.length)
  | .pdMsg region => decide (msgMin ≤ region.length)
  | .pdUnknownOther cmd region =>
    !(cmd == cmdInit && decide (initMin ≤ region.length)) &&
      !(cmd == cmdMsg && decide (msgMin ≤ region.length)) && !(cmd == cmdError)
  | .errUnknown code => (defaultErrTable.lookup code).isNone
  | .idle | .enc _ _ _ | .dec _ | .rst | .pdUnknownAbsent _ | .pdError _ => true
  | .errNone | .errInvalidCommand | .errInvalidParameter | .errInvalidMessageLength => true
  | .errInvalidMessageSequencing | .errMessageTimeout | .errChannelBusy => true
  | .errChannelRequiresLock | .errSyncCommandFailed | .errUnspecified => true

end Sys2Proof
end

