-- ==== Sys2Proof/Decode.lean ====
section
/-! DEFINITION. From what stands at FC's input to an operation and back, and the opcode table's rows as data. Every
value of every selecting field is assigned (spec/30_encoding.md R77, R79, R83), so decoding is total and refuses nothing. -/

namespace Sys2Proof

open Sys2Proof.Machine

/-- The host's command select (R83). Operand ports the selected command does not use are not read. -/
def decodeHost (op : BitVec 2) (cid : ChannelId) (cmd : Byte) (payload raw : Bytes) : Instr :=
  if op = 0b00#2 then .idle
  else if op = 0b01#2 then .enc cid cmd payload
  else if op = 0b10#2 then .dec raw
  else .rst

/-- The command map (R77) in the order of its tests (R78): the absent region first, then the three exact command bytes
with their minimum lengths, then everything else. -/
def decodePayload (cmd : Byte) : Option Bytes → Instr
  | none => .pdUnknownAbsent cmd
  | some region =>
    if cmd = cmdInit ∧ initMin ≤ region.length then .pdInit region
    else if cmd = cmdMsg ∧ msgMin ≤ region.length then .pdMsg region
    else if cmd = cmdError then .pdError region
    else .pdUnknownOther cmd region

/-- The instruction of the error-code row that gives a code. -/
def errInstr (code : Byte) : ErrorCode → Instr
  | .none => .errNone
  | .invalidCommand => .errInvalidCommand
  | .invalidParameter => .errInvalidParameter
  | .invalidMessageLength => .errInvalidMessageLength
  | .invalidMessageSequencing => .errInvalidMessageSequencing
  | .messageTimeout => .errMessageTimeout
  | .channelBusy => .errChannelBusy
  | .channelRequiresLock => .errChannelRequiresLock
  | .syncCommandFailed => .errSyncCommandFailed
  | .unspecified => .errUnspecified
  | .unknown => .errUnknown code

/-- The operation a request selects when `ERRMAP` is `table` (R83, R84; R6 makes the error-code map a parameter). -/
def decodeUnder (table : List (Byte × ErrorCode)) : Request → Instr
  | .host op cid cmd payload raw => decodeHost op cid cmd payload raw
  | .payload cmd region => decodePayload cmd region
  | .errCode code => errInstr code (errMap table code)

/-- The operation a request selects by the opcode table as it stands, whose error-code rows are those of the default
`ERRMAP` (R79; PRESUMED, log 7). -/
def decode (q : Request) : Instr := decodeUnder defaultErrTable q

/-- The request that selects an operation, from the same tables (R77, R79, R83). Ports a command does not use hold
zeros and no bytes. -/
def encode : Instr → Request
  | .idle => .host 0b00#2 0#32 0#8 [] []
  | .enc cid cmd payload => .host 0b01#2 cid cmd payload []
  | .dec raw => .host 0b10#2 0#32 0#8 [] raw
  | .rst => .host 0b11#2 0#32 0#8 [] []
  | .pdUnknownAbsent cmd => .payload cmd none
  | .pdInit region => .payload 0x86#8 (some region)
  | .pdMsg region => .payload 0x83#8 (some region)
  | .pdError region => .payload 0xBF#8 (some region)
  | .pdUnknownOther cmd region => .payload cmd (some region)
  | .errNone => .errCode 0x00#8
  | .errInvalidCommand => .errCode 0x01#8
  | .errInvalidParameter => .errCode 0x02#8
  | .errInvalidMessageLength => .errCode 0x03#8
  | .errInvalidMessageSequencing => .errCode 0x04#8
  | .errMessageTimeout => .errCode 0x05#8
  | .errChannelBusy => .errCode 0x06#8
  | .errChannelRequiresLock => .errCode 0x0A#8
  | .errSyncCommandFailed => .errCode 0x0B#8
  | .errUnspecified => .errCode 0x7F#8
  | .errUnknown code => .errCode code

/-- A request with the operand ports its command does not read cleared. -/
def Request.canonical : Request → Request
  | .host op cid cmd data raw =>
    if op = 0b01#2 then .host op cid cmd data []
    else if op = 0b10#2 then .host op 0#32 0#8 [] raw
    else .host op 0#32 0#8 [] []
  | .payload cmd region => .payload cmd region
  | .errCode code => .errCode code

/-- The formats of the opcode table (R84). -/
inductive RowFormat where
  | hostcmd
  | cmd8
  | err8
  deriving DecidableEq, Repr

/-- A row's `when` condition on the region: none, region absent, or region present with a least length. -/
inductive RegionNeed where
  | any
  | absent
  | atLeast (n : Nat)
  deriving DecidableEq, Repr

/-- One row of spec/opcode_table.json; `pattern` is its `match`. The `HOSTCMD` rows have no priority and carry 0. -/
structure OpcodeRow where
  mnemonic : String
  format : RowFormat
  pattern : Byte
  mask : Byte
  priority : Nat
  need : RegionNeed
  deriving DecidableEq, Repr

/-- The format of a request. -/
def Request.rowFormat : Request → RowFormat
  | .host _ _ _ _ _ => .hostcmd
  | .payload _ _ => .cmd8
  | .errCode _ => .err8

/-- The selecting field of a request, widened to a byte (R84). -/
def Request.selector : Request → Byte
  | .host op _ _ _ _ => op.zeroExtend 8
  | .payload cmd _ => cmd
  | .errCode code => code

/-- A row's `when` condition holds of a request. -/
def RegionNeed.holdsOf : RegionNeed → Request → Bool
  | .any, _ => true
  | .absent, .payload _ none => true
  | .absent, _ => false
  | .atLeast n, .payload _ (some s) => decide (n ≤ s.length)
  | .atLeast _, _ => false

/-- "A value `v` selects a row when `v AND mask = match` and the row's `when` condition holds" (R84). -/
def OpcodeRow.hits (r : OpcodeRow) (q : Request) : Bool :=
  r.format == q.rowFormat && (q.selector &&& r.mask == r.pattern) && r.need.holdsOf q

/-- The rows of format HOSTCMD. -/
def hostRows : List OpcodeRow :=
  [⟨"IDLE", .hostcmd, 0x0#8, 0x3#8, 0, .any⟩, ⟨"ENC", .hostcmd, 0x1#8, 0x3#8, 0, .any⟩,
   ⟨"DEC", .hostcmd, 0x2#8, 0x3#8, 0, .any⟩, ⟨"RST", .hostcmd, 0x3#8, 0x3#8, 0, .any⟩]

/-- The rows of format CMD8. -/
def payloadRows : List OpcodeRow :=
  [⟨"PD.UNKNOWN.absent", .cmd8, 0x00#8, 0x00#8, 0, .absent⟩, ⟨"PD.INIT", .cmd8, 0x86#8, 0xFF#8, 1, .atLeast 17⟩,
   ⟨"PD.MSG", .cmd8, 0x83#8, 0xFF#8, 1, .atLeast 2⟩, ⟨"PD.ERROR", .cmd8, 0xBF#8, 0xFF#8, 1, .atLeast 0⟩,
   ⟨"PD.UNKNOWN.other", .cmd8, 0x00#8, 0x00#8, 2, .atLeast 0⟩]

/-- The rows of format ERR8; that the code byte is `region[0]` of a present region is the caller's (R136). -/
def errRows : List OpcodeRow :=
  [⟨"ERR.None", .err8, 0x00#8, 0xFF#8, 0, .any⟩, ⟨"ERR.InvalidCommand", .err8, 0x01#8, 0xFF#8, 0, .any⟩,
   ⟨"ERR.InvalidParameter", .err8, 0x02#8, 0xFF#8, 0, .any⟩, ⟨"ERR.InvalidMessageLength", .err8, 0x03#8, 0xFF#8, 0, .any⟩,
   ⟨"ERR.InvalidMessageSequencing", .err8, 0x04#8, 0xFF#8, 0, .any⟩, ⟨"ERR.MessageTimeout", .err8, 0x05#8, 0xFF#8, 0, .any⟩,
   ⟨"ERR.ChannelBusy", .err8, 0x06#8, 0xFF#8, 0, .any⟩, ⟨"ERR.ChannelRequiresLock", .err8, 0x0A#8, 0xFF#8, 0, .any⟩,
   ⟨"ERR.SyncCommandFailed", .err8, 0x0B#8, 0xFF#8, 0, .any⟩, ⟨"ERR.Unspecified", .err8, 0x7F#8, 0xFF#8, 0, .any⟩,
   ⟨"ERR.Unknown", .err8, 0x00#8, 0x00#8, 1, .any⟩]

/-- The whole opcode table, in its own order. -/
def opcodeTable : List OpcodeRow := hostRows ++ payloadRows ++ errRows

/-- The mnemonic of an instruction's row. -/
def Instr.mnemonic : Instr → String
  | .idle => "IDLE"
  | .enc _ _ _ => "ENC"
  | .dec _ => "DEC"
  | .rst => "RST"
  | .pdUnknownAbsent _ => "PD.UNKNOWN.absent"
  | .pdInit _ => "PD.INIT"
  | .pdMsg _ => "PD.MSG"
  | .pdError _ => "PD.ERROR"
  | .pdUnknownOther _ _ => "PD.UNKNOWN.other"
  | .errNone => "ERR.None"
  | .errInvalidCommand => "ERR.InvalidCommand"
  | .errInvalidParameter => "ERR.InvalidParameter"
  | .errInvalidMessageLength => "ERR.InvalidMessageLength"
  | .errInvalidMessageSequencing => "ERR.InvalidMessageSequencing"
  | .errMessageTimeout => "ERR.MessageTimeout"
  | .errChannelBusy => "ERR.ChannelBusy"
  | .errChannelRequiresLock => "ERR.ChannelRequiresLock"
  | .errSyncCommandFailed => "ERR.SyncCommandFailed"
  | .errUnspecified => "ERR.Unspecified"
  | .errUnknown _ => "ERR.Unknown"

/-- The request the host's word stands for: the selecting field `w` with every operand zero, each byte buffer at the
size of a full report (57 bytes after the header, 64 bytes received). DESIGN CHOICE (log 8, log 9): the table's three
formats have three selecting fields and their numbers overlap, so a number is read as an `OP` if it fits in two bits,
else as a listed error-code byte if it is one, else as a command byte. -/
def requestOfTableWord (nbits w : Nat) : Option Request :=
  if 8 < nbits ∨ 2 ^ nbits ≤ w then none
  else if w < 4 then
    some (.host (BitVec.ofNat 2 w) 0#32 0#8 (List.replicate 57 0#8) (List.replicate 64 0#8))
  else if (defaultErrTable.lookup (BitVec.ofNat 8 w)).isSome then some (.errCode (BitVec.ofNat 8 w))
  else some (.payload (BitVec.ofNat 8 w) (some (List.replicate 57 0#8)))

/-- The instruction the decoder reads from a word of the opcode table. -/
def decodeTableWord (nbits w : Nat) : Option Instr :=
  (requestOfTableWord nbits w).map decode

end Sys2Proof
end

