-- ==== Sys2Proof/Machine/Flags.lean ====
section
/-! DEFINITION. Every test and flag the spec gives: the two length tests, the success predicate, the fault bits, and the
fixed-width forms of the length tests that spec/70_reset_and_hazards.md R188 and R189 speak of. -/

namespace Sys2Proof.Machine

/-- ENC's only failure condition, `payload.length + 8 > 65`, over the naturals (spec/40_frame_codec.md R101). -/
abbrev encOverlong (n : Nat) : Prop := txLen < n + txHdr

/-- The region is present: `0 < dlen ≤ L − 7` (spec/40_frame_codec.md R113; kept literally, R120). It is read only
where `7 ≤ L` (R9). -/
abbrev regionPresent (dlen L : Nat) : Prop := 0 < dlen ∧ dlen ≤ L - rxHdr

/-- The success predicate: status bytes exactly (0x90, 0x00) (spec/41_payload_decoder.md R135). -/
def isOk (sw1 sw2 : Byte) : Bool := sw1 == swOk.1 && sw2 == swOk.2

/-- A fault's bit in `FAULT` (spec/10_state.md R28; spec/60_exceptions.md R160). -/
def faultBit : FaultCode → BitVec 2
  | .encOverlen => 0b01#2
  | .decShort => 0b10#2

/-- The host's test of `I_CAPS` for CAPABILITY_NMSG, bit 3 (spec/30_encoding.md R86); FC never makes it. -/
def declaresNmsg (caps : Byte) : Bool := caps &&& capabilityNmsg != 0#8

/-- The encode test made with an adder of `w` bits (R188). -/
def encOverlongByAdder (w n : Nat) : Bool := decide (txLen < (BitVec.ofNat w n + BitVec.ofNat w txHdr).toNat)

/-- The decode bound written `dlen + 7 ≤ L` (R189). -/
abbrev regionPresentByAdd (dlen L : Nat) : Prop := 0 < dlen ∧ dlen + rxHdr ≤ L

end Sys2Proof.Machine
end

