-- ==== Sys2Proof/Machine/Operands.lean ====
section
/-! DEFINITION. Every operand form: the byte-order helpers, the slices, the transmit report ENC builds, the fields FDEC
reads, the three payload layouts PDEC reads, and the error-code map. All are functions of the operands alone
(spec/10_state.md R37). An index into a buffer carries the proof that it is in range (spec/20_memory.md R51). -/

namespace Sys2Proof.Machine

/-- `byte_k(v)`: `(v div 2^(8k)) mod 256` (spec/00_scope.md R8). -/
def byteOf (k v : Nat) : Byte := BitVec.ofNat 8 (v / 2 ^ (8 * k))

/-- A 16-bit value written big-endian (R8, R52). -/
def be16Bytes (v : Nat) : Bytes := [byteOf 1 v, byteOf 0 v]

/-- A 32-bit value written big-endian (R8, R52). -/
def be32Bytes (v : Nat) : Bytes := [byteOf 3 v, byteOf 2 v, byteOf 1 v, byteOf 0 v]

/-- `be16(s, k) = s[k]·256 + s[k+1]` (R8). -/
def be16 (s : Bytes) (k : Nat) (h : k + 1 < s.length) : Nat :=
  s[k].toNat * 256 + s[k + 1].toNat

/-- `be32(s, k) = s[k]·2^24 + s[k+1]·2^16 + s[k+2]·2^8 + s[k+3]` (R8). -/
def be32 (s : Bytes) (k : Nat) (h : k + 3 < s.length) : Nat :=
  s[k].toNat * 2 ^ 24 + s[k + 1].toNat * 2 ^ 16 + s[k + 2].toNat * 2 ^ 8 + s[k + 3].toNat

/-- The half-open slice `s[a..b]` (R7), used only where `a ≤ b ≤ len(s)`. -/
def slice (s : Bytes) (a b : Nat) : Bytes := (s.drop a).take (b - a)

/-- `zeros(k)` (R7). -/
def zeros (k : Nat) : Bytes := List.replicate k 0x00#8

/-- `enc(cid, cmd, payload)`: the 65 bytes of the transmit report, or `none` for failure
(spec/40_frame_codec.md R101, R102; layout spec/30_encoding.md R71). -/
def encodeReport (cid : ChannelId) (cmd : Byte) (payload : Bytes) : Option Bytes :=
  if encOverlong payload.length then none
  else
    some ([reportId] ++ be32Bytes cid.toNat ++ [cmd] ++ be16Bytes payload.length ++ payload ++
      zeros (maxPayload - payload.length))

/-- The frame stage FDEC, or `none` for a buffer shorter than the header (spec/40_frame_codec.md R111 to R114). -/
def fdec (raw : Bytes) : Option FrameStage :=
  if h : rxHdr ≤ raw.length then
    have h7 : 7 ≤ raw.length := h
    let dlen := be16 raw 5 (by omega)
    some
      { cid := BitVec.ofNat 32 (be32 raw 0 (by omega))
        cmd := raw[4]
        dlen := BitVec.ofNat 16 dlen
        region := if regionPresent dlen raw.length then some (slice raw rxHdr (rxHdr + dlen)) else none }
  else none

/-- PD.INIT with its length test: "attempt InitPayload parse (needs ≥17 bytes, else Unknown)" (spec/30_encoding.md R77,
layout R74; spec/41_payload_decoder.md R132). -/
def parseInit (s : Bytes) : PayloadVariant :=
  if h : initMin ≤ s.length then
    have h17 : 17 ≤ s.length := h
    .init (slice s 0 8) (BitVec.ofNat 32 (be32 s 8 (by omega))) s[12] s[13] s[14] s[15] s[16]
  else .unknown

/-- PD.MSG with its length test: "attempt MessagePayload parse (needs ≥2 bytes, else Unknown)" (spec/30_encoding.md R77,
layout R75; spec/41_payload_decoder.md R134). -/
def parseMessage (s : Bytes) : PayloadVariant :=
  if h : msgMin ≤ s.length then
    have h2 : 2 ≤ s.length := h
    .message (slice s 0 (s.length - 2)) s[s.length - 2] s[s.length - 1]
  else .unknown

/-- PD.ERROR: the code of the first byte; Unknown on an empty region (spec/41_payload_decoder.md R136, layout
spec/30_encoding.md R76). -/
def parseError (table : List (Byte × ErrorCode)) : Bytes → PayloadVariant
  | [] => .error .unknown
  | code :: _ => .error (errMap table code)

/-- `PDEC(cmd, region)` (spec/41_payload_decoder.md R130, R131). -/
def pdec (table : List (Byte × ErrorCode)) (cmd : Byte) : Option Bytes → PayloadVariant
  | none => .unknown
  | some s =>
    if cmd = cmdInit then parseInit s
    else if cmd = cmdMsg then parseMessage s
    else if cmd = cmdError then parseError table s
    else .unknown

/-- `dec(raw)`: the frame stage, then the payload stage on its results (spec/40_frame_codec.md R117). -/
def decodeReport (table : List (Byte × ErrorCode)) (raw : Bytes) : Option (FrameStage × PayloadVariant) :=
  (fdec raw).map fun f => (f, pdec table f.cmd f.region)

/-- The tag of a variant, which `R_VAR` holds (spec/40_frame_codec.md R117). -/
def variantTag : PayloadVariant → Variant
  | .init _ _ _ _ _ _ _ => .init
  | .message _ _ _ => .message
  | .error _ => .error
  | .unknown => .unknown

/-- The 2-bit encoding of `R_VAR` (spec/10_state.md R24, decision D16); no rule depends on it. -/
def variantBits : Variant → BitVec 2
  | .unknown => 0
  | .init => 1
  | .message => 2
  | .error => 3

/-- The 4-bit encoding of `E_CODE`, the position in the spec's list (spec/10_state.md R27, decision D16); it is not the
wire byte, and no rule depends on it. -/
def errorCodeBits : ErrorCode → BitVec 4
  | .none => 0
  | .invalidCommand => 1
  | .invalidParameter => 2
  | .invalidMessageLength => 3
  | .invalidMessageSequencing => 4
  | .messageTimeout => 5
  | .channelBusy => 6
  | .channelRequiresLock => 7
  | .syncCommandFailed => 8
  | .unspecified => 9
  | .unknown => 10

end Sys2Proof.Machine
end

