-- ==== Sys2Proof/Machine/State.lean ====
section
/-! DEFINITION. The state of FC: every element of spec/10_state.md R21, and the two fields the model adds (`cfg`,
`pending`), as plain data; its value after reset (R39); and why a step or a read can stop. -/

namespace Sys2Proof.Machine

/-- The state elements of R21, by name: what a host read names (spec/10_state.md R30). -/
inductive Element where
  | txv
  | txbuf
  | rxv
  | rCid
  | rCmd
  | rDlen
  | rRv
  | rRegion
  | rVar
  | iNonce
  | iCid
  | iProto
  | iMajor
  | iMinor
  | iBuild
  | iCaps
  | mData
  | mSw1
  | mSw2
  | mOk
  | eCode
  | fault
  deriving DecidableEq, Repr

/-- Reasons for which the machine stops. There are none: "FC itself never stops, halts or exits"
(spec/70_reset_and_hazards.md R194), and its two faults are sticky bits after which it "goes on accepting commands"
(spec/60_exceptions.md R164), so a fault of FC is a next state (DEDUCED, log 10; safe). -/
inductive Fault
  deriving DecidableEq, Repr

/-- Reasons for which no meaning is given. -/
inductive Refusal where
  /-- Raised by an arm of `exec` for an instruction not modelled; none is left, so no step raises it. Safe. -/
  | notModelled (mnemonic : String)
  /-- Raised by `hostRead` for an element that holds no value: "A host read of an element that holds no value is
  refused" (spec/10_state.md R30). No step raises it. Safe. -/
  | noValue (e : Element)
  deriving DecidableEq, Repr

/-- The architectural state of FC (R21), and below it the model's own two fields. -/
structure State where
  /-- `TXV`: `TXBUF` holds a report (R22). -/
  txv : Bool
  /-- `TXBUF`: the 65 bytes of the last report (R22). -/
  txbuf : Held Bytes
  /-- `RXV`: the RX group holds the result of a DEC (R23). -/
  rxv : Bool
  /-- `R_CID`: channel id (R23). -/
  rCid : Held ChannelId
  /-- `R_CMD`: command byte (R23). -/
  rCmd : Held Byte
  /-- `R_DLEN`: declared length (R23). -/
  rDlen : Held (BitVec 16)
  /-- `R_RV`: the payload region is present (R23). -/
  rRv : Held Bool
  /-- `R_REGION`: the region's bytes (R23). -/
  rRegion : Held Bytes
  /-- `R_VAR`: the variant PDEC chose (R24). -/
  rVar : Held Variant
  /-- `I_NONCE`: 8 bytes (R25). -/
  iNonce : Held Bytes
  /-- `I_CID`: allocated channel id (R25). -/
  iCid : Held ChannelId
  /-- `I_PROTO`: protocol version (R25). -/
  iProto : Held Byte
  /-- `I_MAJOR`: device version, major (R25). -/
  iMajor : Held Byte
  /-- `I_MINOR`: device version, minor (R25). -/
  iMinor : Held Byte
  /-- `I_BUILD`: device version, build (R25). -/
  iBuild : Held Byte
  /-- `I_CAPS`: capability flags (R25). -/
  iCaps : Held Byte
  /-- `M_DATA`: the data before the status bytes (R26). -/
  mData : Held Bytes
  /-- `M_SW1`: status byte 1 (R26). -/
  mSw1 : Held Byte
  /-- `M_SW2`: status byte 2 (R26). -/
  mSw2 : Held Byte
  /-- `M_OK`: the status bytes mean success (R26). -/
  mOk : Held Bool
  /-- `E_CODE`: the error code (R27). -/
  eCode : Held ErrorCode
  /-- `FAULT`: bit 0 `ENC_OVERLEN`, bit 1 `DEC_SHORT`, both sticky (R28). -/
  fault : BitVec 2
  /-- The parameters of spec/00_scope.md R6, fixed for a run; no step writes them. The model's own field (log 6). -/
  cfg : Config
  /-- The commands the host has still to issue, the next one first. The model's own field (log 1). -/
  pending : List Request
  deriving DecidableEq, Repr

/-- The state after reset (R39): valid bits and `FAULT` zero, every other element with no value; the default parameters
(R6) and no command waiting (log 1). Power-on has the same effect (spec/70_reset_and_hazards.md R180). -/
def State.reset : State :=
  { txv := false, txbuf := none
    rxv := false, rCid := none, rCmd := none, rDlen := none, rRv := none, rRegion := none
    rVar := none
    iNonce := none, iCid := none, iProto := none, iMajor := none, iMinor := none, iBuild := none, iCaps := none
    mData := none, mSw1 := none, mSw2 := none, mOk := none
    eCode := none
    fault := 0#2
    cfg := defaultConfig
    pending := [] }

end Sys2Proof.Machine
end

