-- ==== Sys2Proof/Machine/Ops.lean ====
section
/-! DEFINITION. The named operations over the state: writing and invalidating each group, taking a fault, reset, and
taking the next command. Every meaning is one of these over a function of Operands. -/

namespace Sys2Proof.Machine

/-- A report ENC accepted: all 65 bytes at once (spec/40_frame_codec.md R103). -/
def State.writeTx (s : State) (report : Bytes) : State :=
  { s with txv := true, txbuf := some report }

/-- The TX group holds no value. -/
def State.clearTx (s : State) : State :=
  { s with txv := false, txbuf := none }

/-- The frame stage's results (spec/40_frame_codec.md R117). -/
def State.writeFrame (s : State) (f : FrameStage) : State :=
  { s with
    rxv := true
    rCid := some f.cid
    rCmd := some f.cmd
    rDlen := some f.dlen
    rRv := some f.region.isSome
    rRegion := f.region }

/-- The frame stage holds no value. -/
def State.clearFrame (s : State) : State :=
  { s with rxv := false, rCid := none, rCmd := none, rDlen := none, rRv := none, rRegion := none }

/-- The payload stage holds no value: `R_VAR`, the Init, the Message and the Error elements. -/
def State.clearPayload (s : State) : State :=
  { s with
    rVar := none
    iNonce := none, iCid := none, iProto := none, iMajor := none, iMinor := none, iBuild := none, iCaps := none
    mData := none, mSw1 := none, mSw2 := none, mOk := none
    eCode := none }

/-- The payload stage's results: the elements of the chosen variant, every other variant's with no value
(spec/41_payload_decoder.md R138). -/
def State.writeVariant (s : State) : PayloadVariant → State
  | .init nonce cid proto major minor build caps =>
    { s.clearPayload with
      rVar := some .init
      iNonce := some nonce
      iCid := some cid
      iProto := some proto
      iMajor := some major
      iMinor := some minor
      iBuild := some build
      iCaps := some caps }
  | .message data sw1 sw2 =>
    { s.clearPayload with
      rVar := some .message
      mData := some data
      mSw1 := some sw1
      mSw2 := some sw2
      mOk := some (isOk sw1 sw2) }
  | .error code => { s.clearPayload with rVar := some .error, eCode := some code }
  | .unknown => { s.clearPayload with rVar := some .unknown }

/-- The whole RX group holds no value (spec/40_frame_codec.md R111). -/
def State.clearRx (s : State) : State := s.clearFrame.clearPayload

/-- Sets a fault's sticky bit and nothing else (spec/10_state.md R28). -/
def State.raiseBit (s : State) (c : FaultCode) : State :=
  { s with fault := s.fault ||| faultBit c }

/-- Fault entry (spec/60_exceptions.md R165): set the fault's bit, clear the valid bit of the group the operation owns,
leave every other element of that group holding no value; the other group is untouched and there is no control
transfer. There is no return from it but RST (R168). -/
def State.takeFault (s : State) : FaultCode → State
  | .encOverlen => (s.raiseBit .encOverlen).clearTx
  | .decShort => (s.raiseBit .decShort).clearRx

/-- The effect of RST on the state elements (spec/70_reset_and_hazards.md R180): the values of R39. The parameters are
configuration, which "reset does not touch" (R182), and the host's later commands are still to come (log 12). -/
def State.resetElements (s : State) : State :=
  { State.reset with cfg := s.cfg, pending := s.pending }

/-- The next command, decoded under the machine's `ERRMAP`, and the state without it. With no command waiting the host selects no operation, `OP = 00`
(spec/30_encoding.md R83; log 1). -/
def State.takeCommand (s : State) : Instr × State :=
  match s.pending with
  | [] => (.idle, s)
  | q :: rest => (decodeUnder s.cfg.errTable q, { s with pending := rest })

end Sys2Proof.Machine
end

