-- ==== Sys2Proof/Machine/ErrorCodes.lean ====
section
/-! DEFINITION. The meanings of the error-code rows (format ERR8, spec/30_encoding.md R79): each delivers its code as
the payload stage's Error variant does (spec/41_payload_decoder.md R138; DEDUCED, log 5). -/

namespace Sys2Proof.Machine

/-- Error-code row None: `E_CODE = None`. -/
def execErrNone (s : State) : Host.Outcome State Fault Refusal := .next (s.writeVariant (.error .none))

/-- Error-code row InvalidCommand: `E_CODE = InvalidCommand`. -/
def execErrInvalidCommand (s : State) : Host.Outcome State Fault Refusal := .next (s.writeVariant (.error .invalidCommand))

/-- Error-code row InvalidParameter: `E_CODE = InvalidParameter`. -/
def execErrInvalidParameter (s : State) : Host.Outcome State Fault Refusal := .next (s.writeVariant (.error .invalidParameter))

/-- Error-code row InvalidMessageLength: `E_CODE = InvalidMessageLength`. -/
def execErrInvalidMessageLength (s : State) : Host.Outcome State Fault Refusal := .next (s.writeVariant (.error .invalidMessageLength))

/-- Error-code row InvalidMessageSequencing: `E_CODE = InvalidMessageSequencing`. -/
def execErrInvalidMessageSequencing (s : State) : Host.Outcome State Fault Refusal := .next (s.writeVariant (.error .invalidMessageSequencing))

/-- Error-code row MessageTimeout: `E_CODE = MessageTimeout`. -/
def execErrMessageTimeout (s : State) : Host.Outcome State Fault Refusal := .next (s.writeVariant (.error .messageTimeout))

/-- Error-code row ChannelBusy: `E_CODE = ChannelBusy`. -/
def execErrChannelBusy (s : State) : Host.Outcome State Fault Refusal := .next (s.writeVariant (.error .channelBusy))

/-- Error-code row ChannelRequiresLock: `E_CODE = ChannelRequiresLock`. -/
def execErrChannelRequiresLock (s : State) : Host.Outcome State Fault Refusal := .next (s.writeVariant (.error .channelRequiresLock))

/-- Error-code row SyncCommandFailed: `E_CODE = SyncCommandFailed`. -/
def execErrSyncCommandFailed (s : State) : Host.Outcome State Fault Refusal := .next (s.writeVariant (.error .syncCommandFailed))

/-- Error-code row Unspecified: `E_CODE = Unspecified`. -/
def execErrUnspecified (s : State) : Host.Outcome State Fault Refusal := .next (s.writeVariant (.error .unspecified))

/-- Error-code row Unknown: `E_CODE = Unknown`; the raw code byte "is not kept in `E_CODE`" (spec/10_state.md R27). -/
def execErrUnknown (_code : Byte) (s : State) : Host.Outcome State Fault Refusal :=
  .next (s.writeVariant (.error .unknown))

end Sys2Proof.Machine
end

