-- ==== Sys2Proof/Machine/HostCommands.lean ====
section
/-! DEFINITION. The meanings of the four host commands (format HOSTCMD). -/

namespace Sys2Proof.Machine

/-- IDLE: "no state element changes, no fault is raised" (spec/70_reset_and_hazards.md R181). -/
def execIdle (s : State) : Host.Outcome State Fault Refusal := .next s

/-- ENC (spec/40_frame_codec.md R100 to R105): the report, or the fault ENC_OVERLEN. -/
def execEnc (cid : ChannelId) (cmd : Byte) (payload : Bytes) (s : State) : Host.Outcome State Fault Refusal :=
  match encodeReport cid cmd payload with
  | some report => .next (s.writeTx report)
  | none => .next (s.takeFault .encOverlen)

/-- DEC (spec/40_frame_codec.md R110 to R117): both stages' results, or the fault DEC_SHORT. -/
def execDec (raw : Bytes) (s : State) : Host.Outcome State Fault Refusal :=
  match decodeReport s.cfg.errTable raw with
  | some (f, v) => .next ((s.writeFrame f).writeVariant v)
  | none => .next (s.takeFault .decShort)

/-- RST (spec/70_reset_and_hazards.md R180). -/
def execRst (s : State) : Host.Outcome State Fault Refusal := .next s.resetElements

end Sys2Proof.Machine
end

