-- ==== Sys2Proof/Machine/PayloadStage.lean ====
section
/-! DEFINITION. The meanings of the payload stage's rows (format CMD8): each writes what spec/41_payload_decoder.md R138
says for its variant, and no element of the frame stage. DESIGN CHOICE (log 3): the stage on its own. -/

namespace Sys2Proof.Machine

/-- PD.UNKNOWN with the region absent: Unknown "regardless of command byte" (spec/41_payload_decoder.md R131 arm (a),
R139); the command byte is not consulted. -/
def execPdUnknownAbsent (_cmd : Byte) (s : State) : Host.Outcome State Fault Refusal :=
  .next (s.writeVariant .unknown)

/-- PD.INIT (spec/41_payload_decoder.md R132; R131 arm (b) below 17 bytes). -/
def execPdInit (region : Bytes) (s : State) : Host.Outcome State Fault Refusal :=
  .next (s.writeVariant (parseInit region))

/-- PD.MSG (spec/41_payload_decoder.md R134, R135; R131 arm (c) below 2 bytes). -/
def execPdMsg (region : Bytes) (s : State) : Host.Outcome State Fault Refusal :=
  .next (s.writeVariant (parseMessage region))

/-- PD.ERROR (spec/41_payload_decoder.md R136, R137). -/
def execPdError (region : Bytes) (s : State) : Host.Outcome State Fault Refusal :=
  .next (s.writeVariant (parseError s.cfg.errTable region))

/-- PD.UNKNOWN with a present region no other row selects (spec/41_payload_decoder.md R139, arms (b) to (d)). -/
def execPdUnknownOther (_cmd : Byte) (_region : Bytes) (s : State) : Host.Outcome State Fault Refusal :=
  .next (s.writeVariant .unknown)

end Sys2Proof.Machine
end

