-- ==== Sys2Proof/Machine/Dispatch.lean ====
section
/-! DEFINITION. The meaning of every operation: one arm per row of the opcode table. -/

namespace Sys2Proof.Machine

def exec (i : Instr) (s : State) : Host.Outcome State Fault Refusal :=
  match i with
  | .idle => Sys2Proof.Machine.execIdle s
  | .enc cid cmd payload => Sys2Proof.Machine.execEnc cid cmd payload s
  | .dec raw => Sys2Proof.Machine.execDec raw s
  | .rst => Sys2Proof.Machine.execRst s
  | .pdUnknownAbsent cmd => Sys2Proof.Machine.execPdUnknownAbsent cmd s
  | .pdInit region => Sys2Proof.Machine.execPdInit region s
  | .pdMsg region => Sys2Proof.Machine.execPdMsg region s
  | .pdError region => Sys2Proof.Machine.execPdError region s
  | .pdUnknownOther cmd region => Sys2Proof.Machine.execPdUnknownOther cmd region s
  | .errNone => Sys2Proof.Machine.execErrNone s
  | .errInvalidCommand => Sys2Proof.Machine.execErrInvalidCommand s
  | .errInvalidParameter => Sys2Proof.Machine.execErrInvalidParameter s
  | .errInvalidMessageLength => Sys2Proof.Machine.execErrInvalidMessageLength s
  | .errInvalidMessageSequencing => Sys2Proof.Machine.execErrInvalidMessageSequencing s
  | .errMessageTimeout => Sys2Proof.Machine.execErrMessageTimeout s
  | .errChannelBusy => Sys2Proof.Machine.execErrChannelBusy s
  | .errChannelRequiresLock => Sys2Proof.Machine.execErrChannelRequiresLock s
  | .errSyncCommandFailed => Sys2Proof.Machine.execErrSyncCommandFailed s
  | .errUnspecified => Sys2Proof.Machine.execErrUnspecified s
  | .errUnknown code => Sys2Proof.Machine.execErrUnknown code s

end Sys2Proof.Machine
end

