-- ==== Sys2Proof/Machine/Step.lean ====
section
/-! DEFINITION. One step of FC: the next command the host issues, performed as one atomic operation
(spec/20_memory.md R57, R62). -/

namespace Sys2Proof.Machine

/-- Takes the next command and performs it (spec/60_exceptions.md R173). -/
def step (s : State) : Host.Outcome State Fault Refusal :=
  exec s.takeCommand.1 s.takeCommand.2

/-- `s` with the operation of an opcode-table word as the command the host issues next (log 8, log 9). A word of no row
changes nothing. -/
def State.withFetchWord (s : State) (nbits w : Nat) : State :=
  match requestOfTableWord nbits w with
  | some q => { s with pending := q :: s.pending }
  | none => s

end Sys2Proof.Machine
end

