-- ==== Sys2Proof/Laws/Operands.lean ====
section
/-! SUPPORT. One lemma per operand form: what it answers and when. -/

namespace Sys2Proof.Machine

/-! ### Bytes, big-endian values and slices -/

theorem byteOf_toNat (k v : Nat) : (byteOf k v).toNat = v / 2 ^ (8 * k) % 256 := by
  simp [byteOf, BitVec.toNat_ofNat]

theorem be16_lt (s : Bytes) (k : Nat) (h : k + 1 < s.length) : be16 s k h < 2 ^ 16 := by
  unfold be16
  have := s[k].isLt
  have := s[k + 1].isLt
  omega

theorem be32_lt (s : Bytes) (k : Nat) (h : k + 3 < s.length) : be32 s k h < 2 ^ 32 := by
  unfold be32
  have := s[k].isLt
  have := s[k + 1].isLt
  have := s[k + 2].isLt
  have := s[k + 3].isLt
  omega

/-- Two bytes written big-endian are read back as the value (spec/00_scope.md R8). -/
theorem be16_of_bytes {s : Bytes} {k v : Nat} (h : k + 1 < s.length) (hv : v < 2 ^ 16)
    (h0 : s[k] = byteOf 1 v) (h1 : s[k + 1] = byteOf 0 v) : be16 s k h = v := by
  simp only [be16, h0, h1, byteOf_toNat]
  omega

/-- Four bytes written big-endian are read back as the value (spec/00_scope.md R8). -/
theorem be32_of_bytes {s : Bytes} {k v : Nat} (h : k + 3 < s.length) (hv : v < 2 ^ 32)
    (h0 : s[k] = byteOf 3 v) (h1 : s[k + 1] = byteOf 2 v) (h2 : s[k + 2] = byteOf 1 v) (h3 : s[k + 3] = byteOf 0 v) :
    be32 s k h = v := by
  simp only [be32, h0, h1, h2, h3, byteOf_toNat]
  omega

/-- A byte appended below a word is 256 times the word plus the byte. -/
theorem append_byte_toNat {w : Nat} (x : BitVec w) (b : Byte) : (x ++ b).toNat = x.toNat * 256 + b.toNat := by
  rw [BitVec.toNat_append, ← Nat.shiftLeft_add_eq_or_of_lt b.isLt, Nat.shiftLeft_eq]

/-- Reading two bytes big-endian is concatenating them. -/
theorem be16_eq_append (s : Bytes) (k : Nat) (h : k + 1 < s.length) :
    BitVec.ofNat 16 (be16 s k h) = (s[k] ++ s[k + 1] : BitVec 16) := by
  apply BitVec.eq_of_toNat_eq
  rw [BitVec.toNat_ofNat, Nat.mod_eq_of_lt (be16_lt s k h), append_byte_toNat]
  rfl

/-- Reading four bytes big-endian is concatenating them. -/
theorem be32_eq_append (s : Bytes) (k : Nat) (h : k + 3 < s.length) :
    BitVec.ofNat 32 (be32 s k h) = (s[k] ++ s[k + 1] ++ s[k + 2] ++ s[k + 3] : BitVec 32) := by
  apply BitVec.eq_of_toNat_eq
  rw [BitVec.toNat_ofNat, Nat.mod_eq_of_lt (be32_lt s k h), append_byte_toNat, append_byte_toNat, append_byte_toNat]
  simp only [be32]
  omega

theorem slice_length {s : Bytes} {a b : Nat} (hb : b ≤ s.length) : (slice s a b).length = b - a := by
  simp only [slice, List.length_take, List.length_drop]
  omega

theorem slice_getElem {s : Bytes} {a b i : Nat} (hb : b ≤ s.length) (hi : i < (slice s a b).length) :
    (slice s a b)[i] = s[a + i]'(by rw [slice_length hb] at hi; omega) := by
  simp [slice]

theorem zeros_length (k : Nat) : (zeros k).length = k := by simp [zeros]

/-! ### ENC -/

theorem encodeReport_eq_none_iff (cid : ChannelId) (cmd : Byte) (payload : Bytes) :
    encodeReport cid cmd payload = none ↔ 57 < payload.length := by
  by_cases h : 65 < payload.length + 8
  · simp [encodeReport, encOverlong, h]; omega
  · simp [encodeReport, encOverlong, h]; omega

theorem encodeReport_of_le {cid : ChannelId} {cmd : Byte} {payload : Bytes} (h : payload.length ≤ 57) :
    encodeReport cid cmd payload =
      some ([reportId] ++ be32Bytes cid.toNat ++ [cmd] ++ be16Bytes payload.length ++ payload ++
        zeros (57 - payload.length)) := by
  have : ¬ (65 < payload.length + 8) := by omega
  simp [encodeReport, encOverlong, this]

theorem encodeReport_of_lt {cid : ChannelId} {cmd : Byte} {payload : Bytes} (h : 57 < payload.length) :
    encodeReport cid cmd payload = none :=
  (encodeReport_eq_none_iff cid cmd payload).2 h

/-! ### DEC -/

theorem fdec_of_lt {raw : Bytes} (h : raw.length < 7) : fdec raw = none := by
  have : ¬ (rxHdr ≤ raw.length) := by simpa using h
  simp only [fdec, this, dif_neg, not_false_iff]

theorem fdec_of_le {raw : Bytes} (h : 7 ≤ raw.length) :
    fdec raw =
      some
        { cid := BitVec.ofNat 32 (be32 raw 0 (by omega))
          cmd := raw[4]
          dlen := BitVec.ofNat 16 (be16 raw 5 (by omega))
          region :=
            if regionPresent (be16 raw 5 (by omega)) raw.length then some (slice raw 7 (7 + be16 raw 5 (by omega)))
            else none } := by
  have h' : rxHdr ≤ raw.length := h
  simp only [fdec, h', dif_pos]

theorem fdec_eq_none_iff (raw : Bytes) : fdec raw = none ↔ raw.length < 7 := by
  by_cases h : 7 ≤ raw.length
  · rw [fdec_of_le h]; simp; omega
  · rw [fdec_of_lt (by omega)]; simp; omega

/-- The declared length FDEC delivers is the 16-bit value it read: nothing is lost in the register. -/
theorem fdec_dlen_toNat (raw : Bytes) (h : 5 + 1 < raw.length) :
    (BitVec.ofNat 16 (be16 raw 5 h)).toNat = be16 raw 5 h := by
  rw [BitVec.toNat_ofNat, Nat.mod_eq_of_lt (be16_lt raw 5 h)]

/-- A present region has the declared length, and it is not empty (spec/40_frame_codec.md R113, R114). -/
theorem fdec_region_length {raw s : Bytes} {f : FrameStage} (h : fdec raw = some f) (hs : f.region = some s) :
    s.length = f.dlen.toNat ∧ 1 ≤ s.length := by
  by_cases h7 : 7 ≤ raw.length
  · rw [fdec_of_le h7, Option.some.injEq] at h
    subst h
    simp only at hs
    split at hs
    · rename_i hp
      simp only [regionPresent, rxHdr] at hp
      cases hs
      rw [slice_length (by omega), fdec_dlen_toNat]
      omega
    · cases hs
  · rw [fdec_of_lt (by omega)] at h; cases h

theorem decodeReport_of_le {table : List (Byte × ErrorCode)} {raw : Bytes} {f : FrameStage} (h : fdec raw = some f) :
    decodeReport table raw = some (f, pdec table f.cmd f.region) := by
  simp [decodeReport, h]

theorem decodeReport_of_lt {table : List (Byte × ErrorCode)} {raw : Bytes} (h : raw.length < 7) :
    decodeReport table raw = none := by
  simp [decodeReport, fdec_of_lt h]

/-! ### PDEC -/

@[simp] theorem pdec_absent (table : List (Byte × ErrorCode)) (cmd : Byte) : pdec table cmd none = .unknown := rfl

@[simp] theorem pdec_init (table : List (Byte × ErrorCode)) (s : Bytes) :
    pdec table 0x86#8 (some s) = parseInit s := rfl

@[simp] theorem pdec_message (table : List (Byte × ErrorCode)) (s : Bytes) :
    pdec table 0x83#8 (some s) = parseMessage s := rfl

@[simp] theorem pdec_error (table : List (Byte × ErrorCode)) (s : Bytes) :
    pdec table 0xBF#8 (some s) = parseError table s := rfl

theorem pdec_other {table : List (Byte × ErrorCode)} {cmd : Byte} (s : Bytes) (h1 : cmd ≠ 0x86#8) (h2 : cmd ≠ 0x83#8)
    (h3 : cmd ≠ 0xBF#8) : pdec table cmd (some s) = .unknown := by
  simp only [pdec, cmdInit, cmdMsg, cmdError, h1, h2, h3, if_false]

theorem parseInit_of_le {s : Bytes} (h : 17 ≤ s.length) :
    parseInit s =
      .init (slice s 0 8) (BitVec.ofNat 32 (be32 s 8 (by omega))) s[12] s[13] s[14] s[15] s[16] := by
  have h' : initMin ≤ s.length := h
  simp only [parseInit, h', dif_pos]

theorem parseInit_of_lt {s : Bytes} (h : s.length < 17) : parseInit s = .unknown := by
  have : ¬ (initMin ≤ s.length) := by simpa using h
  simp only [parseInit, this, dif_neg, not_false_iff]

theorem parseMessage_of_le {s : Bytes} (h : 2 ≤ s.length) :
    parseMessage s = .message (slice s 0 (s.length - 2)) s[s.length - 2] s[s.length - 1] := by
  have h' : msgMin ≤ s.length := h
  simp only [parseMessage, h', dif_pos]

theorem parseMessage_of_lt {s : Bytes} (h : s.length < 2) : parseMessage s = .unknown := by
  have : ¬ (msgMin ≤ s.length) := by simpa using h
  simp only [parseMessage, this, dif_neg, not_false_iff]

end Sys2Proof.Machine
end

