-- ==== Sys2Proof/Laws/State.lean ====
section
/-! SUPPORT. One lemma per field per update of the state, so that no later proof unfolds a record update. -/

namespace Sys2Proof.Machine

section Tx

@[simp] theorem State.writeTx_txv (s : State) (r : Bytes) : (s.writeTx r).txv = true := rfl
@[simp] theorem State.writeTx_txbuf (s : State) (r : Bytes) : (s.writeTx r).txbuf = some r := rfl
@[simp] theorem State.writeTx_rxv (s : State) (r : Bytes) : (s.writeTx r).rxv = s.rxv := rfl
@[simp] theorem State.writeTx_rCid (s : State) (r : Bytes) : (s.writeTx r).rCid = s.rCid := rfl
@[simp] theorem State.writeTx_rCmd (s : State) (r : Bytes) : (s.writeTx r).rCmd = s.rCmd := rfl
@[simp] theorem State.writeTx_rDlen (s : State) (r : Bytes) : (s.writeTx r).rDlen = s.rDlen := rfl
@[simp] theorem State.writeTx_rRv (s : State) (r : Bytes) : (s.writeTx r).rRv = s.rRv := rfl
@[simp] theorem State.writeTx_rRegion (s : State) (r : Bytes) : (s.writeTx r).rRegion = s.rRegion := rfl
@[simp] theorem State.writeTx_rVar (s : State) (r : Bytes) : (s.writeTx r).rVar = s.rVar := rfl
@[simp] theorem State.writeTx_iNonce (s : State) (r : Bytes) : (s.writeTx r).iNonce = s.iNonce := rfl
@[simp] theorem State.writeTx_iCid (s : State) (r : Bytes) : (s.writeTx r).iCid = s.iCid := rfl
@[simp] theorem State.writeTx_iProto (s : State) (r : Bytes) : (s.writeTx r).iProto = s.iProto := rfl
@[simp] theorem State.writeTx_iMajor (s : State) (r : Bytes) : (s.writeTx r).iMajor = s.iMajor := rfl
@[simp] theorem State.writeTx_iMinor (s : State) (r : Bytes) : (s.writeTx r).iMinor = s.iMinor := rfl
@[simp] theorem State.writeTx_iBuild (s : State) (r : Bytes) : (s.writeTx r).iBuild = s.iBuild := rfl
@[simp] theorem State.writeTx_iCaps (s : State) (r : Bytes) : (s.writeTx r).iCaps = s.iCaps := rfl
@[simp] theorem State.writeTx_mData (s : State) (r : Bytes) : (s.writeTx r).mData = s.mData := rfl
@[simp] theorem State.writeTx_mSw1 (s : State) (r : Bytes) : (s.writeTx r).mSw1 = s.mSw1 := rfl
@[simp] theorem State.writeTx_mSw2 (s : State) (r : Bytes) : (s.writeTx r).mSw2 = s.mSw2 := rfl
@[simp] theorem State.writeTx_mOk (s : State) (r : Bytes) : (s.writeTx r).mOk = s.mOk := rfl
@[simp] theorem State.writeTx_eCode (s : State) (r : Bytes) : (s.writeTx r).eCode = s.eCode := rfl
@[simp] theorem State.writeTx_fault (s : State) (r : Bytes) : (s.writeTx r).fault = s.fault := rfl
@[simp] theorem State.writeTx_cfg (s : State) (r : Bytes) : (s.writeTx r).cfg = s.cfg := rfl
@[simp] theorem State.writeTx_pending (s : State) (r : Bytes) : (s.writeTx r).pending = s.pending := rfl

@[simp] theorem State.clearTx_txv (s : State) : (s.clearTx).txv = false := rfl
@[simp] theorem State.clearTx_txbuf (s : State) : (s.clearTx).txbuf = none := rfl
@[simp] theorem State.clearTx_rxv (s : State) : (s.clearTx).rxv = s.rxv := rfl
@[simp] theorem State.clearTx_rCid (s : State) : (s.clearTx).rCid = s.rCid := rfl
@[simp] theorem State.clearTx_rCmd (s : State) : (s.clearTx).rCmd = s.rCmd := rfl
@[simp] theorem State.clearTx_rDlen (s : State) : (s.clearTx).rDlen = s.rDlen := rfl
@[simp] theorem State.clearTx_rRv (s : State) : (s.clearTx).rRv = s.rRv := rfl
@[simp] theorem State.clearTx_rRegion (s : State) : (s.clearTx).rRegion = s.rRegion := rfl
@[simp] theorem State.clearTx_rVar (s : State) : (s.clearTx).rVar = s.rVar := rfl
@[simp] theorem State.clearTx_iNonce (s : State) : (s.clearTx).iNonce = s.iNonce := rfl
@[simp] theorem State.clearTx_iCid (s : State) : (s.clearTx).iCid = s.iCid := rfl
@[simp] theorem State.clearTx_iProto (s : State) : (s.clearTx).iProto = s.iProto := rfl
@[simp] theorem State.clearTx_iMajor (s : State) : (s.clearTx).iMajor = s.iMajor := rfl
@[simp] theorem State.clearTx_iMinor (s : State) : (s.clearTx).iMinor = s.iMinor := rfl
@[simp] theorem State.clearTx_iBuild (s : State) : (s.clearTx).iBuild = s.iBuild := rfl
@[simp] theorem State.clearTx_iCaps (s : State) : (s.clearTx).iCaps = s.iCaps := rfl
@[simp] theorem State.clearTx_mData (s : State) : (s.clearTx).mData = s.mData := rfl
@[simp] theorem State.clearTx_mSw1 (s : State) : (s.clearTx).mSw1 = s.mSw1 := rfl
@[simp] theorem State.clearTx_mSw2 (s : State) : (s.clearTx).mSw2 = s.mSw2 := rfl
@[simp] theorem State.clearTx_mOk (s : State) : (s.clearTx).mOk = s.mOk := rfl
@[simp] theorem State.clearTx_eCode (s : State) : (s.clearTx).eCode = s.eCode := rfl
@[simp] theorem State.clearTx_fault (s : State) : (s.clearTx).fault = s.fault := rfl
@[simp] theorem State.clearTx_cfg (s : State) : (s.clearTx).cfg = s.cfg := rfl
@[simp] theorem State.clearTx_pending (s : State) : (s.clearTx).pending = s.pending := rfl

end Tx

section Rx

@[simp] theorem State.writeFrame_txv (s : State) (f : FrameStage) : (s.writeFrame f).txv = s.txv := rfl
@[simp] theorem State.writeFrame_txbuf (s : State) (f : FrameStage) : (s.writeFrame f).txbuf = s.txbuf := rfl
@[simp] theorem State.writeFrame_rxv (s : State) (f : FrameStage) : (s.writeFrame f).rxv = true := rfl
@[simp] theorem State.writeFrame_rCid (s : State) (f : FrameStage) : (s.writeFrame f).rCid = some f.cid := rfl
@[simp] theorem State.writeFrame_rCmd (s : State) (f : FrameStage) : (s.writeFrame f).rCmd = some f.cmd := rfl
@[simp] theorem State.writeFrame_rDlen (s : State) (f : FrameStage) : (s.writeFrame f).rDlen = some f.dlen := rfl
@[simp] theorem State.writeFrame_rRv (s : State) (f : FrameStage) : (s.writeFrame f).rRv = some f.region.isSome := rfl
@[simp] theorem State.writeFrame_rRegion (s : State) (f : FrameStage) : (s.writeFrame f).rRegion = f.region := rfl
@[simp] theorem State.writeFrame_rVar (s : State) (f : FrameStage) : (s.writeFrame f).rVar = s.rVar := rfl
@[simp] theorem State.writeFrame_iNonce (s : State) (f : FrameStage) : (s.writeFrame f).iNonce = s.iNonce := rfl
@[simp] theorem State.writeFrame_iCid (s : State) (f : FrameStage) : (s.writeFrame f).iCid = s.iCid := rfl
@[simp] theorem State.writeFrame_iProto (s : State) (f : FrameStage) : (s.writeFrame f).iProto = s.iProto := rfl
@[simp] theorem State.writeFrame_iMajor (s : State) (f : FrameStage) : (s.writeFrame f).iMajor = s.iMajor := rfl
@[simp] theorem State.writeFrame_iMinor (s : State) (f : FrameStage) : (s.writeFrame f).iMinor = s.iMinor := rfl
@[simp] theorem State.writeFrame_iBuild (s : State) (f : FrameStage) : (s.writeFrame f).iBuild = s.iBuild := rfl
@[simp] theorem State.writeFrame_iCaps (s : State) (f : FrameStage) : (s.writeFrame f).iCaps = s.iCaps := rfl
@[simp] theorem State.writeFrame_mData (s : State) (f : FrameStage) : (s.writeFrame f).mData = s.mData := rfl
@[simp] theorem State.writeFrame_mSw1 (s : State) (f : FrameStage) : (s.writeFrame f).mSw1 = s.mSw1 := rfl
@[simp] theorem State.writeFrame_mSw2 (s : State) (f : FrameStage) : (s.writeFrame f).mSw2 = s.mSw2 := rfl
@[simp] theorem State.writeFrame_mOk (s : State) (f : FrameStage) : (s.writeFrame f).mOk = s.mOk := rfl
@[simp] theorem State.writeFrame_eCode (s : State) (f : FrameStage) : (s.writeFrame f).eCode = s.eCode := rfl
@[simp] theorem State.writeFrame_fault (s : State) (f : FrameStage) : (s.writeFrame f).fault = s.fault := rfl
@[simp] theorem State.writeFrame_cfg (s : State) (f : FrameStage) : (s.writeFrame f).cfg = s.cfg := rfl
@[simp] theorem State.writeFrame_pending (s : State) (f : FrameStage) : (s.writeFrame f).pending = s.pending := rfl

@[simp] theorem State.clearFrame_txv (s : State) : (s.clearFrame).txv = s.txv := rfl
@[simp] theorem State.clearFrame_txbuf (s : State) : (s.clearFrame).txbuf = s.txbuf := rfl
@[simp] theorem State.clearFrame_rxv (s : State) : (s.clearFrame).rxv = false := rfl
@[simp] theorem State.clearFrame_rCid (s : State) : (s.clearFrame).rCid = none := rfl
@[simp] theorem State.clearFrame_rCmd (s : State) : (s.clearFrame).rCmd = none := rfl
@[simp] theorem State.clearFrame_rDlen (s : State) : (s.clearFrame).rDlen = none := rfl
@[simp] theorem State.clearFrame_rRv (s : State) : (s.clearFrame).rRv = none := rfl
@[simp] theorem State.clearFrame_rRegion (s : State) : (s.clearFrame).rRegion = none := rfl
@[simp] theorem State.clearFrame_rVar (s : State) : (s.clearFrame).rVar = s.rVar := rfl
@[simp] theorem State.clearFrame_iNonce (s : State) : (s.clearFrame).iNonce = s.iNonce := rfl
@[simp] theorem State.clearFrame_iCid (s : State) : (s.clearFrame).iCid = s.iCid := rfl
@[simp] theorem State.clearFrame_iProto (s : State) : (s.clearFrame).iProto = s.iProto := rfl
@[simp] theorem State.clearFrame_iMajor (s : State) : (s.clearFrame).iMajor = s.iMajor := rfl
@[simp] theorem State.clearFrame_iMinor (s : State) : (s.clearFrame).iMinor = s.iMinor := rfl
@[simp] theorem State.clearFrame_iBuild (s : State) : (s.clearFrame).iBuild = s.iBuild := rfl
@[simp] theorem State.clearFrame_iCaps (s : State) : (s.clearFrame).iCaps = s.iCaps := rfl
@[simp] theorem State.clearFrame_mData (s : State) : (s.clearFrame).mData = s.mData := rfl
@[simp] theorem State.clearFrame_mSw1 (s : State) : (s.clearFrame).mSw1 = s.mSw1 := rfl
@[simp] theorem State.clearFrame_mSw2 (s : State) : (s.clearFrame).mSw2 = s.mSw2 := rfl
@[simp] theorem State.clearFrame_mOk (s : State) : (s.clearFrame).mOk = s.mOk := rfl
@[simp] theorem State.clearFrame_eCode (s : State) : (s.clearFrame).eCode = s.eCode := rfl
@[simp] theorem State.clearFrame_fault (s : State) : (s.clearFrame).fault = s.fault := rfl
@[simp] theorem State.clearFrame_cfg (s : State) : (s.clearFrame).cfg = s.cfg := rfl
@[simp] theorem State.clearFrame_pending (s : State) : (s.clearFrame).pending = s.pending := rfl

@[simp] theorem State.clearPayload_txv (s : State) : (s.clearPayload).txv = s.txv := rfl
@[simp] theorem State.clearPayload_txbuf (s : State) : (s.clearPayload).txbuf = s.txbuf := rfl
@[simp] theorem State.clearPayload_rxv (s : State) : (s.clearPayload).rxv = s.rxv := rfl
@[simp] theorem State.clearPayload_rCid (s : State) : (s.clearPayload).rCid = s.rCid := rfl
@[simp] theorem State.clearPayload_rCmd (s : State) : (s.clearPayload).rCmd = s.rCmd := rfl
@[simp] theorem State.clearPayload_rDlen (s : State) : (s.clearPayload).rDlen = s.rDlen := rfl
@[simp] theorem State.clearPayload_rRv (s : State) : (s.clearPayload).rRv = s.rRv := rfl
@[simp] theorem State.clearPayload_rRegion (s : State) : (s.clearPayload).rRegion = s.rRegion := rfl
@[simp] theorem State.clearPayload_rVar (s : State) : (s.clearPayload).rVar = none := rfl
@[simp] theorem State.clearPayload_iNonce (s : State) : (s.clearPayload).iNonce = none := rfl
@[simp] theorem State.clearPayload_iCid (s : State) : (s.clearPayload).iCid = none := rfl
@[simp] theorem State.clearPayload_iProto (s : State) : (s.clearPayload).iProto = none := rfl
@[simp] theorem State.clearPayload_iMajor (s : State) : (s.clearPayload).iMajor = none := rfl
@[simp] theorem State.clearPayload_iMinor (s : State) : (s.clearPayload).iMinor = none := rfl
@[simp] theorem State.clearPayload_iBuild (s : State) : (s.clearPayload).iBuild = none := rfl
@[simp] theorem State.clearPayload_iCaps (s : State) : (s.clearPayload).iCaps = none := rfl
@[simp] theorem State.clearPayload_mData (s : State) : (s.clearPayload).mData = none := rfl
@[simp] theorem State.clearPayload_mSw1 (s : State) : (s.clearPayload).mSw1 = none := rfl
@[simp] theorem State.clearPayload_mSw2 (s : State) : (s.clearPayload).mSw2 = none := rfl
@[simp] theorem State.clearPayload_mOk (s : State) : (s.clearPayload).mOk = none := rfl
@[simp] theorem State.clearPayload_eCode (s : State) : (s.clearPayload).eCode = none := rfl
@[simp] theorem State.clearPayload_fault (s : State) : (s.clearPayload).fault = s.fault := rfl
@[simp] theorem State.clearPayload_cfg (s : State) : (s.clearPayload).cfg = s.cfg := rfl
@[simp] theorem State.clearPayload_pending (s : State) : (s.clearPayload).pending = s.pending := rfl

@[simp] theorem State.clearRx_txv (s : State) : (s.clearRx).txv = s.txv := rfl
@[simp] theorem State.clearRx_txbuf (s : State) : (s.clearRx).txbuf = s.txbuf := rfl
@[simp] theorem State.clearRx_rxv (s : State) : (s.clearRx).rxv = false := rfl
@[simp] theorem State.clearRx_rCid (s : State) : (s.clearRx).rCid = none := rfl
@[simp] theorem State.clearRx_rCmd (s : State) : (s.clearRx).rCmd = none := rfl
@[simp] theorem State.clearRx_rDlen (s : State) : (s.clearRx).rDlen = none := rfl
@[simp] theorem State.clearRx_rRv (s : State) : (s.clearRx).rRv = none := rfl
@[simp] theorem State.clearRx_rRegion (s : State) : (s.clearRx).rRegion = none := rfl
@[simp] theorem State.clearRx_rVar (s : State) : (s.clearRx).rVar = none := rfl
@[simp] theorem State.clearRx_iNonce (s : State) : (s.clearRx).iNonce = none := rfl
@[simp] theorem State.clearRx_iCid (s : State) : (s.clearRx).iCid = none := rfl
@[simp] theorem State.clearRx_iProto (s : State) : (s.clearRx).iProto = none := rfl
@[simp] theorem State.clearRx_iMajor (s : State) : (s.clearRx).iMajor = none := rfl
@[simp] theorem State.clearRx_iMinor (s : State) : (s.clearRx).iMinor = none := rfl
@[simp] theorem State.clearRx_iBuild (s : State) : (s.clearRx).iBuild = none := rfl
@[simp] theorem State.clearRx_iCaps (s : State) : (s.clearRx).iCaps = none := rfl
@[simp] theorem State.clearRx_mData (s : State) : (s.clearRx).mData = none := rfl
@[simp] theorem State.clearRx_mSw1 (s : State) : (s.clearRx).mSw1 = none := rfl
@[simp] theorem State.clearRx_mSw2 (s : State) : (s.clearRx).mSw2 = none := rfl
@[simp] theorem State.clearRx_mOk (s : State) : (s.clearRx).mOk = none := rfl
@[simp] theorem State.clearRx_eCode (s : State) : (s.clearRx).eCode = none := rfl
@[simp] theorem State.clearRx_fault (s : State) : (s.clearRx).fault = s.fault := rfl
@[simp] theorem State.clearRx_cfg (s : State) : (s.clearRx).cfg = s.cfg := rfl
@[simp] theorem State.clearRx_pending (s : State) : (s.clearRx).pending = s.pending := rfl

@[simp] theorem State.writeVariant_init_rVar (s : State) (n : Bytes) (c : ChannelId) (p ma mi b k : Byte) :
    (s.writeVariant (.init n c p ma mi b k)).rVar = some .init := rfl
@[simp] theorem State.writeVariant_init_iNonce (s : State) (n : Bytes) (c : ChannelId) (p ma mi b k : Byte) :
    (s.writeVariant (.init n c p ma mi b k)).iNonce = some n := rfl
@[simp] theorem State.writeVariant_init_iCid (s : State) (n : Bytes) (c : ChannelId) (p ma mi b k : Byte) :
    (s.writeVariant (.init n c p ma mi b k)).iCid = some c := rfl
@[simp] theorem State.writeVariant_init_iProto (s : State) (n : Bytes) (c : ChannelId) (p ma mi b k : Byte) :
    (s.writeVariant (.init n c p ma mi b k)).iProto = some p := rfl
@[simp] theorem State.writeVariant_init_iMajor (s : State) (n : Bytes) (c : ChannelId) (p ma mi b k : Byte) :
    (s.writeVariant (.init n c p ma mi b k)).iMajor = some ma := rfl
@[simp] theorem State.writeVariant_init_iMinor (s : State) (n : Bytes) (c : ChannelId) (p ma mi b k : Byte) :
    (s.writeVariant (.init n c p ma mi b k)).iMinor = some mi := rfl
@[simp] theorem State.writeVariant_init_iBuild (s : State) (n : Bytes) (c : ChannelId) (p ma mi b k : Byte) :
    (s.writeVariant (.init n c p ma mi b k)).iBuild = some b := rfl
@[simp] theorem State.writeVariant_init_iCaps (s : State) (n : Bytes) (c : ChannelId) (p ma mi b k : Byte) :
    (s.writeVariant (.init n c p ma mi b k)).iCaps = some k := rfl
@[simp] theorem State.writeVariant_init_mData (s : State) (n : Bytes) (c : ChannelId) (p ma mi b k : Byte) :
    (s.writeVariant (.init n c p ma mi b k)).mData = none := rfl
@[simp] theorem State.writeVariant_init_mSw1 (s : State) (n : Bytes) (c : ChannelId) (p ma mi b k : Byte) :
    (s.writeVariant (.init n c p ma mi b k)).mSw1 = none := rfl
@[simp] theorem State.writeVariant_init_mSw2 (s : State) (n : Bytes) (c : ChannelId) (p ma mi b k : Byte) :
    (s.writeVariant (.init n c p ma mi b k)).mSw2 = none := rfl
@[simp] theorem State.writeVariant_init_mOk (s : State) (n : Bytes) (c : ChannelId) (p ma mi b k : Byte) :
    (s.writeVariant (.init n c p ma mi b k)).mOk = none := rfl
@[simp] theorem State.writeVariant_init_eCode (s : State) (n : Bytes) (c : ChannelId) (p ma mi b k : Byte) :
    (s.writeVariant (.init n c p ma mi b k)).eCode = none := rfl

@[simp] theorem State.writeVariant_message_rVar (s : State) (d : Bytes) (a b : Byte) :
    (s.writeVariant (.message d a b)).rVar = some .message := rfl
@[simp] theorem State.writeVariant_message_iNonce (s : State) (d : Bytes) (a b : Byte) :
    (s.writeVariant (.message d a b)).iNonce = none := rfl
@[simp] theorem State.writeVariant_message_iCid (s : State) (d : Bytes) (a b : Byte) :
    (s.writeVariant (.message d a b)).iCid = none := rfl
@[simp] theorem State.writeVariant_message_iProto (s : State) (d : Bytes) (a b : Byte) :
    (s.writeVariant (.message d a b)).iProto = none := rfl
@[simp] theorem State.writeVariant_message_iMajor (s : State) (d : Bytes) (a b : Byte) :
    (s.writeVariant (.message d a b)).iMajor = none := rfl
@[simp] theorem State.writeVariant_message_iMinor (s : State) (d : Bytes) (a b : Byte) :
    (s.writeVariant (.message d a b)).iMinor = none := rfl
@[simp] theorem State.writeVariant_message_iBuild (s : State) (d : Bytes) (a b : Byte) :
    (s.writeVariant (.message d a b)).iBuild = none := rfl
@[simp] theorem State.writeVariant_message_iCaps (s : State) (d : Bytes) (a b : Byte) :
    (s.writeVariant (.message d a b)).iCaps = none := rfl
@[simp] theorem State.writeVariant_message_mData (s : State) (d : Bytes) (a b : Byte) :
    (s.writeVariant (.message d a b)).mData = some d := rfl
@[simp] theorem State.writeVariant_message_mSw1 (s : State) (d : Bytes) (a b : Byte) :
    (s.writeVariant (.message d a b)).mSw1 = some a := rfl
@[simp] theorem State.writeVariant_message_mSw2 (s : State) (d : Bytes) (a b : Byte) :
    (s.writeVariant (.message d a b)).mSw2 = some b := rfl
@[simp] theorem State.writeVariant_message_mOk (s : State) (d : Bytes) (a b : Byte) :
    (s.writeVariant (.message d a b)).mOk = some (isOk a b) := rfl
@[simp] theorem State.writeVariant_message_eCode (s : State) (d : Bytes) (a b : Byte) :
    (s.writeVariant (.message d a b)).eCode = none := rfl

@[simp] theorem State.writeVariant_error_rVar (s : State) (c : ErrorCode) :
    (s.writeVariant (.error c)).rVar = some .error := rfl
@[simp] theorem State.writeVariant_error_iNonce (s : State) (c : ErrorCode) :
    (s.writeVariant (.error c)).iNonce = none := rfl
@[simp] theorem State.writeVariant_error_iCid (s : State) (c : ErrorCode) :
    (s.writeVariant (.error c)).iCid = none := rfl
@[simp] theorem State.writeVariant_error_iProto (s : State) (c : ErrorCode) :
    (s.writeVariant (.error c)).iProto = none := rfl
@[simp] theorem State.writeVariant_error_iMajor (s : State) (c : ErrorCode) :
    (s.writeVariant (.error c)).iMajor = none := rfl
@[simp] theorem State.writeVariant_error_iMinor (s : State) (c : ErrorCode) :
    (s.writeVariant (.error c)).iMinor = none := rfl
@[simp] theorem State.writeVariant_error_iBuild (s : State) (c : ErrorCode) :
    (s.writeVariant (.error c)).iBuild = none := rfl
@[simp] theorem State.writeVariant_error_iCaps (s : State) (c : ErrorCode) :
    (s.writeVariant (.error c)).iCaps = none := rfl
@[simp] theorem State.writeVariant_error_mData (s : State) (c : ErrorCode) :
    (s.writeVariant (.error c)).mData = none := rfl
@[simp] theorem State.writeVariant_error_mSw1 (s : State) (c : ErrorCode) :
    (s.writeVariant (.error c)).mSw1 = none := rfl
@[simp] theorem State.writeVariant_error_mSw2 (s : State) (c : ErrorCode) :
    (s.writeVariant (.error c)).mSw2 = none := rfl
@[simp] theorem State.writeVariant_error_mOk (s : State) (c : ErrorCode) :
    (s.writeVariant (.error c)).mOk = none := rfl
@[simp] theorem State.writeVariant_error_eCode (s : State) (c : ErrorCode) :
    (s.writeVariant (.error c)).eCode = some c := rfl

@[simp] theorem State.writeVariant_unknown_rVar (s : State) :
    (s.writeVariant .unknown).rVar = some .unknown := rfl
@[simp] theorem State.writeVariant_unknown_iNonce (s : State) :
    (s.writeVariant .unknown).iNonce = none := rfl
@[simp] theorem State.writeVariant_unknown_iCid (s : State) :
    (s.writeVariant .unknown).iCid = none := rfl
@[simp] theorem State.writeVariant_unknown_iProto (s : State) :
    (s.writeVariant .unknown).iProto = none := rfl
@[simp] theorem State.writeVariant_unknown_iMajor (s : State) :
    (s.writeVariant .unknown).iMajor = none := rfl
@[simp] theorem State.writeVariant_unknown_iMinor (s : State) :
    (s.writeVariant .unknown).iMinor = none := rfl
@[simp] theorem State.writeVariant_unknown_iBuild (s : State) :
    (s.writeVariant .unknown).iBuild = none := rfl
@[simp] theorem State.writeVariant_unknown_iCaps (s : State) :
    (s.writeVariant .unknown).iCaps = none := rfl
@[simp] theorem State.writeVariant_unknown_mData (s : State) :
    (s.writeVariant .unknown).mData = none := rfl
@[simp] theorem State.writeVariant_unknown_mSw1 (s : State) :
    (s.writeVariant .unknown).mSw1 = none := rfl
@[simp] theorem State.writeVariant_unknown_mSw2 (s : State) :
    (s.writeVariant .unknown).mSw2 = none := rfl
@[simp] theorem State.writeVariant_unknown_mOk (s : State) :
    (s.writeVariant .unknown).mOk = none := rfl
@[simp] theorem State.writeVariant_unknown_eCode (s : State) :
    (s.writeVariant .unknown).eCode = none := rfl

@[simp] theorem State.writeVariant_txv (s : State) (v : PayloadVariant) : (s.writeVariant v).txv = s.txv := by
  cases v <;> rfl
@[simp] theorem State.writeVariant_txbuf (s : State) (v : PayloadVariant) : (s.writeVariant v).txbuf = s.txbuf := by
  cases v <;> rfl
@[simp] theorem State.writeVariant_rxv (s : State) (v : PayloadVariant) : (s.writeVariant v).rxv = s.rxv := by
  cases v <;> rfl
@[simp] theorem State.writeVariant_rCid (s : State) (v : PayloadVariant) : (s.writeVariant v).rCid = s.rCid := by
  cases v <;> rfl
@[simp] theorem State.writeVariant_rCmd (s : State) (v : PayloadVariant) : (s.writeVariant v).rCmd = s.rCmd := by
  cases v <;> rfl
@[simp] theorem State.writeVariant_rDlen (s : State) (v : PayloadVariant) : (s.writeVariant v).rDlen = s.rDlen := by
  cases v <;> rfl
@[simp] theorem State.writeVariant_rRv (s : State) (v : PayloadVariant) : (s.writeVariant v).rRv = s.rRv := by
  cases v <;> rfl
@[simp] theorem State.writeVariant_rRegion (s : State) (v : PayloadVariant) : (s.writeVariant v).rRegion = s.rRegion := by
  cases v <;> rfl
@[simp] theorem State.writeVariant_fault (s : State) (v : PayloadVariant) : (s.writeVariant v).fault = s.fault := by
  cases v <;> rfl
@[simp] theorem State.writeVariant_cfg (s : State) (v : PayloadVariant) : (s.writeVariant v).cfg = s.cfg := by
  cases v <;> rfl
@[simp] theorem State.writeVariant_pending (s : State) (v : PayloadVariant) : (s.writeVariant v).pending = s.pending := by
  cases v <;> rfl

theorem State.writeVariant_rVar (s : State) (v : PayloadVariant) : (s.writeVariant v).rVar = some (variantTag v) := by
  cases v <;> rfl

end Rx

section Control

@[simp] theorem State.takeFault_encOverlen_txv (s : State) : (s.takeFault .encOverlen).txv = false := rfl
@[simp] theorem State.takeFault_encOverlen_txbuf (s : State) : (s.takeFault .encOverlen).txbuf = none := rfl
@[simp] theorem State.takeFault_encOverlen_rxv (s : State) : (s.takeFault .encOverlen).rxv = s.rxv := rfl
@[simp] theorem State.takeFault_encOverlen_rCid (s : State) : (s.takeFault .encOverlen).rCid = s.rCid := rfl
@[simp] theorem State.takeFault_encOverlen_rCmd (s : State) : (s.takeFault .encOverlen).rCmd = s.rCmd := rfl
@[simp] theorem State.takeFault_encOverlen_rDlen (s : State) : (s.takeFault .encOverlen).rDlen = s.rDlen := rfl
@[simp] theorem State.takeFault_encOverlen_rRv (s : State) : (s.takeFault .encOverlen).rRv = s.rRv := rfl
@[simp] theorem State.takeFault_encOverlen_rRegion (s : State) : (s.takeFault .encOverlen).rRegion = s.rRegion := rfl
@[simp] theorem State.takeFault_encOverlen_rVar (s : State) : (s.takeFault .encOverlen).rVar = s.rVar := rfl
@[simp] theorem State.takeFault_encOverlen_iNonce (s : State) : (s.takeFault .encOverlen).iNonce = s.iNonce := rfl
@[simp] theorem State.takeFault_encOverlen_iCid (s : State) : (s.takeFault .encOverlen).iCid = s.iCid := rfl
@[simp] theorem State.takeFault_encOverlen_iProto (s : State) : (s.takeFault .encOverlen).iProto = s.iProto := rfl
@[simp] theorem State.takeFault_encOverlen_iMajor (s : State) : (s.takeFault .encOverlen).iMajor = s.iMajor := rfl
@[simp] theorem State.takeFault_encOverlen_iMinor (s : State) : (s.takeFault .encOverlen).iMinor = s.iMinor := rfl
@[simp] theorem State.takeFault_encOverlen_iBuild (s : State) : (s.takeFault .encOverlen).iBuild = s.iBuild := rfl
@[simp] theorem State.takeFault_encOverlen_iCaps (s : State) : (s.takeFault .encOverlen).iCaps = s.iCaps := rfl
@[simp] theorem State.takeFault_encOverlen_mData (s : State) : (s.takeFault .encOverlen).mData = s.mData := rfl
@[simp] theorem State.takeFault_encOverlen_mSw1 (s : State) : (s.takeFault .encOverlen).mSw1 = s.mSw1 := rfl
@[simp] theorem State.takeFault_encOverlen_mSw2 (s : State) : (s.takeFault .encOverlen).mSw2 = s.mSw2 := rfl
@[simp] theorem State.takeFault_encOverlen_mOk (s : State) : (s.takeFault .encOverlen).mOk = s.mOk := rfl
@[simp] theorem State.takeFault_encOverlen_eCode (s : State) : (s.takeFault .encOverlen).eCode = s.eCode := rfl
@[simp] theorem State.takeFault_encOverlen_fault (s : State) : (s.takeFault .encOverlen).fault = s.fault ||| 0b01#2 := rfl
@[simp] theorem State.takeFault_encOverlen_cfg (s : State) : (s.takeFault .encOverlen).cfg = s.cfg := rfl
@[simp] theorem State.takeFault_encOverlen_pending (s : State) : (s.takeFault .encOverlen).pending = s.pending := rfl

@[simp] theorem State.takeFault_decShort_txv (s : State) : (s.takeFault .decShort).txv = s.txv := rfl
@[simp] theorem State.takeFault_decShort_txbuf (s : State) : (s.takeFault .decShort).txbuf = s.txbuf := rfl
@[simp] theorem State.takeFault_decShort_rxv (s : State) : (s.takeFault .decShort).rxv = false := rfl
@[simp] theorem State.takeFault_decShort_rCid (s : State) : (s.takeFault .decShort).rCid = none := rfl
@[simp] theorem State.takeFault_decShort_rCmd (s : State) : (s.takeFault .decShort).rCmd = none := rfl
@[simp] theorem State.takeFault_decShort_rDlen (s : State) : (s.takeFault .decShort).rDlen = none := rfl
@[simp] theorem State.takeFault_decShort_rRv (s : State) : (s.takeFault .decShort).rRv = none := rfl
@[simp] theorem State.takeFault_decShort_rRegion (s : State) : (s.takeFault .decShort).rRegion = none := rfl
@[simp] theorem State.takeFault_decShort_rVar (s : State) : (s.takeFault .decShort).rVar = none := rfl
@[simp] theorem State.takeFault_decShort_iNonce (s : State) : (s.takeFault .decShort).iNonce = none := rfl
@[simp] theorem State.takeFault_decShort_iCid (s : State) : (s.takeFault .decShort).iCid = none := rfl
@[simp] theorem State.takeFault_decShort_iProto (s : State) : (s.takeFault .decShort).iProto = none := rfl
@[simp] theorem State.takeFault_decShort_iMajor (s : State) : (s.takeFault .decShort).iMajor = none := rfl
@[simp] theorem State.takeFault_decShort_iMinor (s : State) : (s.takeFault .decShort).iMinor = none := rfl
@[simp] theorem State.takeFault_decShort_iBuild (s : State) : (s.takeFault .decShort).iBuild = none := rfl
@[simp] theorem State.takeFault_decShort_iCaps (s : State) : (s.takeFault .decShort).iCaps = none := rfl
@[simp] theorem State.takeFault_decShort_mData (s : State) : (s.takeFault .decShort).mData = none := rfl
@[simp] theorem State.takeFault_decShort_mSw1 (s : State) : (s.takeFault .decShort).mSw1 = none := rfl
@[simp] theorem State.takeFault_decShort_mSw2 (s : State) : (s.takeFault .decShort).mSw2 = none := rfl
@[simp] theorem State.takeFault_decShort_mOk (s : State) : (s.takeFault .decShort).mOk = none := rfl
@[simp] theorem State.takeFault_decShort_eCode (s : State) : (s.takeFault .decShort).eCode = none := rfl
@[simp] theorem State.takeFault_decShort_fault (s : State) : (s.takeFault .decShort).fault = s.fault ||| 0b10#2 := rfl
@[simp] theorem State.takeFault_decShort_cfg (s : State) : (s.takeFault .decShort).cfg = s.cfg := rfl
@[simp] theorem State.takeFault_decShort_pending (s : State) : (s.takeFault .decShort).pending = s.pending := rfl

@[simp] theorem State.resetElements_txv (s : State) : s.resetElements.txv = false := rfl
@[simp] theorem State.resetElements_txbuf (s : State) : s.resetElements.txbuf = none := rfl
@[simp] theorem State.resetElements_rxv (s : State) : s.resetElements.rxv = false := rfl
@[simp] theorem State.resetElements_rCid (s : State) : s.resetElements.rCid = none := rfl
@[simp] theorem State.resetElements_rCmd (s : State) : s.resetElements.rCmd = none := rfl
@[simp] theorem State.resetElements_rDlen (s : State) : s.resetElements.rDlen = none := rfl
@[simp] theorem State.resetElements_rRv (s : State) : s.resetElements.rRv = none := rfl
@[simp] theorem State.resetElements_rRegion (s : State) : s.resetElements.rRegion = none := rfl
@[simp] theorem State.resetElements_rVar (s : State) : s.resetElements.rVar = none := rfl
@[simp] theorem State.resetElements_iNonce (s : State) : s.resetElements.iNonce = none := rfl
@[simp] theorem State.resetElements_iCid (s : State) : s.resetElements.iCid = none := rfl
@[simp] theorem State.resetElements_iProto (s : State) : s.resetElements.iProto = none := rfl
@[simp] theorem State.resetElements_iMajor (s : State) : s.resetElements.iMajor = none := rfl
@[simp] theorem State.resetElements_iMinor (s : State) : s.resetElements.iMinor = none := rfl
@[simp] theorem State.resetElements_iBuild (s : State) : s.resetElements.iBuild = none := rfl
@[simp] theorem State.resetElements_iCaps (s : State) : s.resetElements.iCaps = none := rfl
@[simp] theorem State.resetElements_mData (s : State) : s.resetElements.mData = none := rfl
@[simp] theorem State.resetElements_mSw1 (s : State) : s.resetElements.mSw1 = none := rfl
@[simp] theorem State.resetElements_mSw2 (s : State) : s.resetElements.mSw2 = none := rfl
@[simp] theorem State.resetElements_mOk (s : State) : s.resetElements.mOk = none := rfl
@[simp] theorem State.resetElements_eCode (s : State) : s.resetElements.eCode = none := rfl
@[simp] theorem State.resetElements_fault (s : State) : s.resetElements.fault = 0#2 := rfl
@[simp] theorem State.resetElements_cfg (s : State) : s.resetElements.cfg = s.cfg := rfl
@[simp] theorem State.resetElements_pending (s : State) : s.resetElements.pending = s.pending := rfl

@[simp] theorem State.takeCommand_txv (s : State) : s.takeCommand.2.txv = s.txv := by
  unfold State.takeCommand; split <;> rfl
@[simp] theorem State.takeCommand_txbuf (s : State) : s.takeCommand.2.txbuf = s.txbuf := by
  unfold State.takeCommand; split <;> rfl
@[simp] theorem State.takeCommand_rxv (s : State) : s.takeCommand.2.rxv = s.rxv := by
  unfold State.takeCommand; split <;> rfl
@[simp] theorem State.takeCommand_rCid (s : State) : s.takeCommand.2.rCid = s.rCid := by
  unfold State.takeCommand; split <;> rfl
@[simp] theorem State.takeCommand_rCmd (s : State) : s.takeCommand.2.rCmd = s.rCmd := by
  unfold State.takeCommand; split <;> rfl
@[simp] theorem State.takeCommand_rDlen (s : State) : s.takeCommand.2.rDlen = s.rDlen := by
  unfold State.takeCommand; split <;> rfl
@[simp] theorem State.takeCommand_rRv (s : State) : s.takeCommand.2.rRv = s.rRv := by
  unfold State.takeCommand; split <;> rfl
@[simp] theorem State.takeCommand_rRegion (s : State) : s.takeCommand.2.rRegion = s.rRegion := by
  unfold State.takeCommand; split <;> rfl
@[simp] theorem State.takeCommand_rVar (s : State) : s.takeCommand.2.rVar = s.rVar := by
  unfold State.takeCommand; split <;> rfl
@[simp] theorem State.takeCommand_iNonce (s : State) : s.takeCommand.2.iNonce = s.iNonce := by
  unfold State.takeCommand; split <;> rfl
@[simp] theorem State.takeCommand_iCid (s : State) : s.takeCommand.2.iCid = s.iCid := by
  unfold State.takeCommand; split <;> rfl
@[simp] theorem State.takeCommand_iProto (s : State) : s.takeCommand.2.iProto = s.iProto := by
  unfold State.takeCommand; split <;> rfl
@[simp] theorem State.takeCommand_iMajor (s : State) : s.takeCommand.2.iMajor = s.iMajor := by
  unfold State.takeCommand; split <;> rfl
@[simp] theorem State.takeCommand_iMinor (s : State) : s.takeCommand.2.iMinor = s.iMinor := by
  unfold State.takeCommand; split <;> rfl
@[simp] theorem State.takeCommand_iBuild (s : State) : s.takeCommand.2.iBuild = s.iBuild := by
  unfold State.takeCommand; split <;> rfl
@[simp] theorem State.takeCommand_iCaps (s : State) : s.takeCommand.2.iCaps = s.iCaps := by
  unfold State.takeCommand; split <;> rfl
@[simp] theorem State.takeCommand_mData (s : State) : s.takeCommand.2.mData = s.mData := by
  unfold State.takeCommand; split <;> rfl
@[simp] theorem State.takeCommand_mSw1 (s : State) : s.takeCommand.2.mSw1 = s.mSw1 := by
  unfold State.takeCommand; split <;> rfl
@[simp] theorem State.takeCommand_mSw2 (s : State) : s.takeCommand.2.mSw2 = s.mSw2 := by
  unfold State.takeCommand; split <;> rfl
@[simp] theorem State.takeCommand_mOk (s : State) : s.takeCommand.2.mOk = s.mOk := by
  unfold State.takeCommand; split <;> rfl
@[simp] theorem State.takeCommand_eCode (s : State) : s.takeCommand.2.eCode = s.eCode := by
  unfold State.takeCommand; split <;> rfl
@[simp] theorem State.takeCommand_fault (s : State) : s.takeCommand.2.fault = s.fault := by
  unfold State.takeCommand; split <;> rfl
@[simp] theorem State.takeCommand_cfg (s : State) : s.takeCommand.2.cfg = s.cfg := by
  unfold State.takeCommand; split <;> rfl
@[simp] theorem State.takeCommand_pending (s : State) : s.takeCommand.2.pending = s.pending.tail := by
  unfold State.takeCommand; split <;> simp_all

end Control

end Sys2Proof.Machine
end

