-- ==== Sys2Proof/Machine/HostInterface.lean ====
section
/-! DEFINITION. What the host does besides issuing commands (spec/60_exceptions.md R171): reads of state elements, which
change nothing (spec/20_memory.md R58), the ResponseFrame projection, and the host's pseudo-operations
(spec/30_encoding.md R88). None of it is a step. -/

namespace Sys2Proof.Machine

/-- What a read of a state element gives, at the element's own width (spec/20_memory.md R55, R57). -/
inductive ElementValue where
  | bit (b : Bool)
  | byte (b : Byte)
  | half (h : BitVec 16)
  | channel (c : ChannelId)
  | bytes (s : Bytes)
  | variant (v : Variant)
  | errorCode (c : ErrorCode)
  | faultBits (f : BitVec 2)
  deriving DecidableEq, Repr

/-- The content of an element. `TXV`, `RXV` and `FAULT` always hold a value (spec/10_state.md R30). -/
def State.element (s : State) : Element → Held ElementValue
  | .txv => some (.bit s.txv)
  | .txbuf => s.txbuf.map .bytes
  | .rxv => some (.bit s.rxv)
  | .rCid => s.rCid.map .channel
  | .rCmd => s.rCmd.map .byte
  | .rDlen => s.rDlen.map .half
  | .rRv => s.rRv.map .bit
  | .rRegion => s.rRegion.map .bytes
  | .rVar => s.rVar.map .variant
  | .iNonce => s.iNonce.map .bytes
  | .iCid => s.iCid.map .channel
  | .iProto => s.iProto.map .byte
  | .iMajor => s.iMajor.map .byte
  | .iMinor => s.iMinor.map .byte
  | .iBuild => s.iBuild.map .byte
  | .iCaps => s.iCaps.map .byte
  | .mData => s.mData.map .bytes
  | .mSw1 => s.mSw1.map .byte
  | .mSw2 => s.mSw2.map .byte
  | .mOk => s.mOk.map .bit
  | .eCode => s.eCode.map .errorCode
  | .fault => some (.faultBits s.fault)

/-- A host read: "A host read of an element that holds no value is refused" (spec/10_state.md R30, decision D18). -/
def hostRead (e : Element) (s : State) : Except Refusal ElementValue :=
  match s.element e with
  | some v => .ok v
  | none => .error (.noValue e)

/-- What the valid bits promise in advance (spec/10_state.md R30). -/
def State.promises (s : State) : Element → Bool
  | .txv | .rxv | .fault => true
  | .txbuf => s.txv
  | .rCid | .rCmd | .rDlen | .rRv | .rVar => s.rxv
  | .rRegion => s.rxv && s.rRv == some true
  | .iNonce | .iCid | .iProto | .iMajor | .iMinor | .iBuild | .iCaps => s.rxv && s.rVar == some .init
  | .mData | .mSw1 | .mSw2 | .mOk => s.rxv && s.rVar == some .message
  | .eCode => s.rxv && s.rVar == some .error

/-- The variant with its data, as the payload stage's elements hold it (spec/10_state.md R34). -/
def State.heldVariant (s : State) : Held PayloadVariant :=
  match s.rVar with
  | none => none
  | some .unknown => some .unknown
  | some .init =>
    match s.iNonce, s.iCid, s.iProto, s.iMajor, s.iMinor, s.iBuild, s.iCaps with
    | some nonce, some cid, some proto, some major, some minor, some build, some caps =>
      some (.init nonce cid proto major minor build caps)
    | _, _, _, _, _, _, _ => none
  | some .message =>
    match s.mData, s.mSw1, s.mSw2 with
    | some data, some sw1, some sw2 => some (.message data sw1 sw2)
    | _, _, _ => none
  | some .error => s.eCode.map .error

/-- The ResponseFrame: the pair (`R_CID`, variant) (spec/10_state.md R34). -/
def responseFrame (s : State) : Held ResponseFrame :=
  match s.rCid, s.heldVariant with
  | some cid, some v => some ⟨cid, v⟩
  | _, _ => none

/-- The source's `decode(raw_bytes) -> ResponseFrame`, the projection `(cid, v)` of `dec`
(spec/40_frame_codec.md R117). -/
def responseOf (table : List (Byte × ErrorCode)) (raw : Bytes) : Option ResponseFrame :=
  (decodeReport table raw).map fun r => ⟨r.1.cid, r.2⟩

/-- `TXBUF[1..65]`, what a loopback hands to DEC (spec/30_encoding.md R88, spec/40_frame_codec.md R118). -/
def loopbackRaw (s : State) : Held Bytes := s.txbuf.map fun report => slice report 1 txLen

/-- The host issues one more command (spec/30_encoding.md R83). -/
def State.issue (s : State) (q : Request) : State := { s with pending := s.pending ++ [q] }

end Sys2Proof.Machine
end

