-- ==== Sys2Proof/Laws/Ops.lean ====
section
/-! SUPPORT. One lemma per shared operation: everything it can do. -/

namespace Sys2Proof.Machine

/-- Taking a fault of ENC touches the TX group and the fault's own bit only (spec/60_exceptions.md R165). -/
theorem State.takeFault_encOverlen_eq (s : State) :
    s.takeFault .encOverlen = { s with txv := false, txbuf := none, fault := s.fault ||| 0b01#2 } := rfl

/-- Taking a fault of DEC touches the RX group and the fault's own bit only (spec/60_exceptions.md R165). -/
theorem State.takeFault_decShort_eq (s : State) :
    s.takeFault .decShort = { s.clearRx with fault := s.fault ||| 0b10#2 } := rfl

/-- Every variant is one of four, and the payload stage holds exactly its fields (spec/41_payload_decoder.md R138). -/
theorem State.heldVariant_writeVariant (s : State) (v : PayloadVariant) : (s.writeVariant v).heldVariant = some v := by
  cases v <;> simp [State.heldVariant]

/-- Writing a variant discards whatever the payload stage held. -/
theorem State.writeVariant_writeVariant (s : State) (v w : PayloadVariant) :
    (s.writeVariant v).writeVariant w = s.writeVariant w := by
  cases v <;> cases w <;> rfl

/-- With a command waiting, it is the one taken. -/
theorem State.takeCommand_cons {s : State} {q : Request} {rest : List Request} (h : s.pending = q :: rest) :
    s.takeCommand = (decodeUnder s.cfg.errTable q, { s with pending := rest }) := by
  unfold State.takeCommand
  rw [h]

/-- With no command waiting, the step is idle (log 1). -/
theorem State.takeCommand_nil {s : State} (h : s.pending = []) : s.takeCommand = (.idle, s) := by
  unfold State.takeCommand
  rw [h]

/-- The four things an ENC or a DEC can do to the state, over the two pure functions (spec/10_state.md R37). -/
theorem execEnc_cases (cid : ChannelId) (cmd : Byte) (payload : Bytes) (s : State) :
    (∃ report, encodeReport cid cmd payload = some report ∧ execEnc cid cmd payload s = .next (s.writeTx report)) ∨
      (encodeReport cid cmd payload = none ∧ execEnc cid cmd payload s = .next (s.takeFault .encOverlen)) := by
  unfold execEnc
  cases h : encodeReport cid cmd payload <;> simp

theorem execDec_cases (raw : Bytes) (s : State) :
    (∃ f, fdec raw = some f ∧
        execDec raw s = .next ((s.writeFrame f).writeVariant (pdec s.cfg.errTable f.cmd f.region))) ∨
      (raw.length < 7 ∧ execDec raw s = .next (s.takeFault .decShort)) := by
  by_cases h : 7 ≤ raw.length
  · left
    refine ⟨_, fdec_of_le h, ?_⟩
    simp only [execDec, decodeReport_of_le (fdec_of_le h)]
  · right
    exact ⟨by omega, by simp only [execDec, decodeReport_of_lt (show raw.length < 7 by omega)]⟩

end Sys2Proof.Machine
end

