-- ==== Sys2Proof/Laws/PerInstr.lean ====
section
/-! SUPPORT. Per-instruction statements about the syntax. -/

/-- The encoded instruction is selected by the opcode-table row of its own mnemonic. -/
def Sys2Proof.Laws.Selects.Statement (i : Sys2Proof.Instr) : Prop :=
  i.wellFormed = true →
    ∃ r ∈ Sys2Proof.opcodeTable, r.mnemonic = i.mnemonic ∧ r.hits (Sys2Proof.encode i) = true

namespace Sys2Proof.Laws.Selects

/-- A row of the table that stands for an instruction and is hit by its encoding. -/
theorem of_row {i : Instr} (r : OpcodeRow) (hr : r ∈ opcodeTable) (hm : r.mnemonic = i.mnemonic)
    (hh : i.wellFormed = true → r.hits (encode i) = true) : Statement i :=
  fun hw => ⟨r, hr, hm, hh hw⟩

/-- A payload-stage row with a least length is hit by a long enough region. -/
theorem hits_atLeast {r : OpcodeRow} {cmd : Byte} {region : Bytes} {n : Nat} (hn : r.need = .atLeast n)
    (hs : (r.format == .cmd8 && (cmd &&& r.mask == r.pattern)) = true) (hl : n ≤ region.length) :
    r.hits (.payload cmd (some region)) = true := by
  simp only [OpcodeRow.hits, Request.rowFormat, Request.selector, hn, RegionNeed.holdsOf, hl, decide_true]
  rw [hs]
  rfl

theorem idle : Statement .idle :=
  of_row opcodeTable[0] (List.getElem_mem _) rfl (fun _ => rfl)

theorem enc (cid : ChannelId) (cmd : Byte) (payload : Bytes) : Statement (.enc cid cmd payload) :=
  of_row opcodeTable[1] (List.getElem_mem _) rfl (fun _ => by simp [opcodeTable, hostRows, OpcodeRow.hits, encode, Request.rowFormat, Request.selector, RegionNeed.holdsOf])

theorem dec (raw : Bytes) : Statement (.dec raw) :=
  of_row opcodeTable[2] (List.getElem_mem _) rfl (fun _ => by simp [opcodeTable, hostRows, OpcodeRow.hits, encode, Request.rowFormat, Request.selector, RegionNeed.holdsOf])

theorem rst : Statement .rst :=
  of_row opcodeTable[3] (List.getElem_mem _) rfl (fun _ => rfl)

theorem pdUnknownAbsent (cmd : Byte) : Statement (.pdUnknownAbsent cmd) :=
  of_row opcodeTable[4] (List.getElem_mem _) rfl (fun _ => by simp [opcodeTable, hostRows, payloadRows, errRows, OpcodeRow.hits, encode, Request.rowFormat, Request.selector, RegionNeed.holdsOf])

theorem pdInit (region : Bytes) : Statement (.pdInit region) :=
  of_row opcodeTable[5] (List.getElem_mem _) rfl (fun hw => hits_atLeast rfl rfl (of_decide_eq_true hw))

theorem pdMsg (region : Bytes) : Statement (.pdMsg region) :=
  of_row opcodeTable[6] (List.getElem_mem _) rfl (fun hw => hits_atLeast rfl rfl (of_decide_eq_true hw))

theorem pdError (region : Bytes) : Statement (.pdError region) :=
  of_row opcodeTable[7] (List.getElem_mem _) rfl (fun _ => by simp [opcodeTable, hostRows, payloadRows, OpcodeRow.hits, encode, Request.rowFormat, Request.selector, RegionNeed.holdsOf])

theorem pdUnknownOther (cmd : Byte) (region : Bytes) : Statement (.pdUnknownOther cmd region) :=
  of_row opcodeTable[8] (List.getElem_mem _) rfl (fun _ => by simp [opcodeTable, hostRows, payloadRows, errRows, OpcodeRow.hits, encode, Request.rowFormat, Request.selector, RegionNeed.holdsOf])

theorem errNone : Statement .errNone :=
  of_row opcodeTable[9] (List.getElem_mem _) rfl (fun _ => rfl)

theorem errInvalidCommand : Statement .errInvalidCommand :=
  of_row opcodeTable[10] (List.getElem_mem _) rfl (fun _ => rfl)

theorem errInvalidParameter : Statement .errInvalidParameter :=
  of_row opcodeTable[11] (List.getElem_mem _) rfl (fun _ => rfl)

theorem errInvalidMessageLength : Statement .errInvalidMessageLength :=
  of_row opcodeTable[12] (List.getElem_mem _) rfl (fun _ => rfl)

theorem errInvalidMessageSequencing : Statement .errInvalidMessageSequencing :=
  of_row opcodeTable[13] (List.getElem_mem _) rfl (fun _ => rfl)

theorem errMessageTimeout : Statement .errMessageTimeout :=
  of_row opcodeTable[14] (List.getElem_mem _) rfl (fun _ => rfl)

theorem errChannelBusy : Statement .errChannelBusy :=
  of_row opcodeTable[15] (List.getElem_mem _) rfl (fun _ => rfl)

theorem errChannelRequiresLock : Statement .errChannelRequiresLock :=
  of_row opcodeTable[16] (List.getElem_mem _) rfl (fun _ => rfl)

theorem errSyncCommandFailed : Statement .errSyncCommandFailed :=
  of_row opcodeTable[17] (List.getElem_mem _) rfl (fun _ => rfl)

theorem errUnspecified : Statement .errUnspecified :=
  of_row opcodeTable[18] (List.getElem_mem _) rfl (fun _ => rfl)

theorem errUnknown (code : Byte) : Statement (.errUnknown code) :=
  of_row opcodeTable[19] (List.getElem_mem _) rfl (fun _ => by simp [opcodeTable, hostRows, payloadRows, errRows, OpcodeRow.hits, encode, Request.rowFormat, Request.selector, RegionNeed.holdsOf])

end Sys2Proof.Laws.Selects
end

