-- ==== Sys2Proof/Safety.lean ====
section
/-! DEFINITION. What counts as a good run, the host's duties, and the invariants of spec/10_state.md R30 and R35, in
the terms the statements use. -/

namespace Sys2Proof.Machine

/-- "No fault recorded": the premise of every claim about a run (spec/60_exceptions.md R164, spec/70_reset_and_hazards.md
R194). -/
abbrev State.good (s : State) : Prop := s.fault = 0#2

/-- The request is one of the host's own commands (format HOSTCMD). -/
def isHostRequest : Request → Bool
  | .host _ _ _ _ _ => true
  | .payload _ _ => false
  | .errCode _ => false

/-- Only the host's own commands wait: no payload-stage or error-code request, which FC has no `OP` for
(spec/41_payload_decoder.md R130). -/
abbrev State.hostOnly (s : State) : Prop := s.pending.all isHostRequest = true

/-- What a transport and a hardware length port can deliver: `L ≤ RX_MAX`, and a payload length of `PLEN_BITS` bits
(spec/00_scope.md R6). A duty of the host's side, which no operation tests. -/
def deliverable (c : Config) : Request → Prop
  | .host _ _ _ payload raw => raw.length ≤ c.rxMax ∧ payload.length < 2 ^ c.plenBits
  | .payload _ _ => True
  | .errCode _ => True

/-- R30 for every element: it holds a value exactly when the valid bits promise one. -/
def State.validBits (s : State) : Prop := ∀ e : Element, (s.element e).isSome = s.promises e

/-- R35 (a): a held report is 65 bytes, with the report id 0, a length field of at most 57, and zeros after the
payload. -/
def State.txShape (s : State) : Prop :=
  ∀ b, s.txbuf = some b →
    ∃ h : b.length = txLen,
      b[0]'(by rw [h]; decide) = 0x00#8 ∧
        be16 b 6 (by rw [h]; decide) ≤ 57 ∧
          ∀ i, 8 + be16 b 6 (by rw [h]; decide) ≤ i → ∀ hi : i < b.length, b[i] = 0x00#8

/-- R35 (b) to (f): how the frame stage and the variant fit together; and the 8 bytes of a held nonce (R25). -/
def State.rxShape (s : State) : Prop :=
  (s.rRv = some true → ∃ d r, s.rDlen = some d ∧ s.rRegion = some r ∧ 1 ≤ d.toNat ∧ r.length = d.toNat) ∧
    (s.rRv = some false → s.rVar = some .unknown) ∧
      (s.rVar = some .init →
        s.rCmd = some 0x86#8 ∧ s.rRv = some true ∧ ∃ d, s.rDlen = some d ∧ 17 ≤ d.toNat) ∧
        (s.rVar = some .message →
          s.rCmd = some 0x83#8 ∧ s.rRv = some true ∧
            ∃ d m, s.rDlen = some d ∧ s.mData = some m ∧ 2 ≤ d.toNat ∧ m.length = d.toNat - 2) ∧
          (s.rVar = some .error → s.rCmd = some 0xBF#8 ∧ s.rRv = some true) ∧
            ∀ n, s.iNonce = some n → n.length = 8

/-- The invariant of FC (R25, R30, R35), for states in which only the host's own commands wait. -/
def State.Inv (s : State) : Prop := s.validBits ∧ s.txShape ∧ s.rxShape ∧ s.hostOnly

/-- The functional reading (spec/10_state.md R37; R22, R23): the TX group is empty or is `enc` of some operands, the RX
group is empty or is `dec` of some buffer, and only the host's own commands wait. -/
def State.functionalReading (s : State) : Prop :=
  ((s.txv = false ∧ s.txbuf = none) ∨
      ∃ cid cmd payload report, encodeReport cid cmd payload = some report ∧ s.txv = true ∧ s.txbuf = some report) ∧
    (s = s.clearRx ∨
      ∃ raw f v, decodeReport s.cfg.errTable raw = some (f, v) ∧ s = (s.writeFrame f).writeVariant v) ∧
      s.hostOnly

/-- No waiting command is RST. -/
abbrev State.noReset (s : State) : Prop := s.pending.all (fun q => decode q != .rst) = true

end Sys2Proof.Machine
end

