-- ==== Sys2Proof/Certificates/Slice0/Obligations.lean ====
section
/-! DEFINITION. The statements about FC, for the provers. Each docstring names the rule of spec/ it formalises. -/

open Sys2Proof
open Sys2Proof.Machine

/-! ### Reset and idle -/

/-- R39: what every element holds after power-on (`State.reset`) and after every RST. -/
def Obligations.ResetLeavesNoValue : Prop :=
  ∀ t : State, (t = State.reset ∨ ∃ s, exec .rst s = .next t) →
    t.txv = false ∧ t.txbuf = none ∧ t.rxv = false ∧
      t.rCid = none ∧ t.rCmd = none ∧ t.rDlen = none ∧ t.rRv = none ∧ t.rRegion = none ∧ t.rVar = none ∧
      t.iNonce = none ∧ t.iCid = none ∧ t.iProto = none ∧ t.iMajor = none ∧ t.iMinor = none ∧ t.iBuild = none ∧
      t.iCaps = none ∧ t.mData = none ∧ t.mSw1 = none ∧ t.mSw2 = none ∧ t.mOk = none ∧ t.eCode = none ∧
      t.fault = 0#2

/-- R180: `OP = 11` selects RST, which takes no operand; it completes from every state with the stated effect on every
element, leaves each element as power-on does, and is the only operation that clears a `FAULT` bit. -/
def Obligations.RstRestoresReset : Prop :=
  (∀ (cid : ChannelId) (cmd : Byte) (payload raw : Bytes), decode (.host 0b11#2 cid cmd payload raw) = .rst) ∧
    (∀ s : State,
      ∃ t, exec .rst s = .next t ∧ t.txv = false ∧ t.txbuf = none ∧ t.rxv = false ∧
        t.rCid = none ∧ t.rCmd = none ∧ t.rDlen = none ∧ t.rRv = none ∧ t.rRegion = none ∧ t.rVar = none ∧
        t.iNonce = none ∧ t.iCid = none ∧ t.iProto = none ∧ t.iMajor = none ∧ t.iMinor = none ∧ t.iBuild = none ∧
        t.iCaps = none ∧ t.mData = none ∧ t.mSw1 = none ∧ t.mSw2 = none ∧ t.mOk = none ∧ t.eCode = none ∧
        t.fault = 0#2 ∧ ∀ e : Element, t.element e = State.reset.element e) ∧
    ∀ (i : Instr) (s t : State), i ≠ .rst → exec i s = .next t → s.fault &&& t.fault = s.fault

/-- R181: `OP = 00` selects no operation, whatever stands on the operand ports; no state element changes. That the idle
select is an instruction at all is log 2, the model's choice. -/
def Obligations.IdleChangesNothing : Prop :=
  ∀ (cid : ChannelId) (cmd : Byte) (payload raw : Bytes) (s : State),
    decode (.host 0b00#2 cid cmd payload raw) = .idle ∧ exec .idle s = .next s

/-! ### ENC -/

/-- R101 to R104: ENC of every channel id, command byte and payload. Up to 57 bytes it writes the 65 bytes of R102 and
sets `TXV`; from 58 bytes on it sets `FAULT` bit 0, clears `TXV` and leaves `TXBUF` with no value. Nothing else changes. -/
def Obligations.EncWritesReportOrFaults : Prop :=
  ∀ (cid : ChannelId) (cmd : Byte) (payload : Bytes) (s : State),
    (payload.length ≤ 57 →
        exec (.enc cid cmd payload) s =
          .next
            { s with
              txv := true
              txbuf := some
                ([0x00#8] ++
                  [BitVec.ofNat 8 (cid.toNat / 2 ^ 24), BitVec.ofNat 8 (cid.toNat / 2 ^ 16),
                    BitVec.ofNat 8 (cid.toNat / 2 ^ 8), BitVec.ofNat 8 cid.toNat] ++
                  [cmd] ++ [BitVec.ofNat 8 (payload.length / 256), BitVec.ofNat 8 payload.length] ++ payload ++
                  List.replicate (57 - payload.length) 0x00#8) }) ∧
      (58 ≤ payload.length →
        exec (.enc cid cmd payload) s =
          .next { s with txv := false, txbuf := none, fault := s.fault ||| 0b01#2 })

/-- R71: the layout of the transmit report, byte by byte. -/
def Obligations.TransmitReportLayout : Prop :=
  ∀ (cid : ChannelId) (cmd : Byte) (payload : Bytes) (s : State), payload.length ≤ 57 →
    ∃ t b, exec (.enc cid cmd payload) s = .next t ∧ t.txbuf = some b ∧ b.length = 65 ∧
      b[0]? = some 0x00#8 ∧
      b[1]? = some (cid.extractLsb' 24 8) ∧ b[2]? = some (cid.extractLsb' 16 8) ∧
      b[3]? = some (cid.extractLsb' 8 8) ∧ b[4]? = some (cid.extractLsb' 0 8) ∧
      b[5]? = some cmd ∧ b[6]? = some 0x00#8 ∧ b[7]? = some (BitVec.ofNat 8 payload.length) ∧
      (∀ i, i < payload.length → b[8 + i]? = payload[i]?) ∧
      ∀ i, 8 + payload.length ≤ i → i < 65 → b[i]? = some 0x00#8

/-- R188: the encode test made with an adder at least one bit wider than the length agrees with `n > 57`, and the
16-bit adder of the rule's own examples does not. -/
def Obligations.EncTestNeedsOneMoreBit : Prop :=
  (∀ w v n : Nat, n < 2 ^ w → w + 1 ≤ v → encOverlongByAdder v n = decide (57 < n)) ∧
    encOverlongByAdder 16 65528 = false ∧ encOverlongByAdder 16 65535 = false

/-! ### DEC -/

/-- R111: a buffer shorter than the header sets `FAULT` bit 1 and leaves the whole RX group with no value; the TX group
is unchanged. -/
def Obligations.DecShortTakesFault : Prop :=
  ∀ (raw : Bytes) (s : State), raw.length < 7 →
    exec (.dec raw) s =
      .next
        { s with
          rxv := false, rCid := none, rCmd := none, rDlen := none, rRv := none, rRegion := none, rVar := none
          iNonce := none, iCid := none, iProto := none, iMajor := none, iMinor := none, iBuild := none
          iCaps := none, mData := none, mSw1 := none, mSw2 := none, mOk := none, eCode := none
          fault := s.fault ||| 0b10#2 }

/-- R112: from 7 bytes on the header is extracted, whatever the outcome of the length test; the fields are the
big-endian concatenations of their bytes. -/
def Obligations.DecReadsHeader : Prop :=
  ∀ (raw : Bytes) (s : State) (h : 7 ≤ raw.length),
    ∃ t, exec (.dec raw) s = .next t ∧ t.rxv = true ∧
      t.rCid = some (raw[0] ++ raw[1] ++ raw[2] ++ raw[3] : BitVec 32) ∧
      t.rCmd = some raw[4] ∧
      t.rDlen = some (raw[5] ++ raw[6] : BitVec 16)

/-- R113, R114: the region is present if and only if `0 < dlen ≤ L − 7`, and then it is the slice `raw[7..7+dlen]`;
otherwise it is absent and the variant is Unknown regardless of the command byte. -/
def Obligations.RegionPresentIffLengthFits : Prop :=
  ∀ (raw : Bytes) (s : State) (dlen : Nat) (h : 7 ≤ raw.length), dlen = (raw[5] ++ raw[6] : BitVec 16).toNat →
    ∃ t, exec (.dec raw) s = .next t ∧
      (0 < dlen ∧ dlen ≤ raw.length - 7 →
        t.rRv = some true ∧ t.rRegion = some ((raw.drop 7).take dlen) ∧ ((raw.drop 7).take dlen).length = dlen) ∧
      (¬ (0 < dlen ∧ dlen ≤ raw.length - 7) →
        t.rRv = some false ∧ t.rRegion = none ∧ t.rVar = some .unknown)

/-- R117, R138: DEC of at least 7 bytes completes, writes the frame stage and, by the variant PDEC gives for it, the
payload stage, with no value in the elements of the variants not chosen, and changes neither the TX group nor
`FAULT`. -/
def Obligations.DecComposesStages : Prop :=
  ∀ (raw : Bytes) (s : State) (h : 7 ≤ raw.length),
    ∃ t region v, exec (.dec raw) s = .next t ∧
      region = (if 0 < (raw[5] ++ raw[6] : BitVec 16).toNat ∧ (raw[5] ++ raw[6] : BitVec 16).toNat ≤ raw.length - 7
        then some ((raw.drop 7).take (raw[5] ++ raw[6] : BitVec 16).toNat) else none) ∧
      v = pdec s.cfg.errTable raw[4] region ∧
      t.rxv = true ∧
      t.rCid = some (raw[0] ++ raw[1] ++ raw[2] ++ raw[3] : BitVec 32) ∧ t.rCmd = some raw[4] ∧
      t.rDlen = some (raw[5] ++ raw[6] : BitVec 16) ∧ t.rRv = some region.isSome ∧ t.rRegion = region ∧
      (match v with
        | .init nonce cid proto major minor build caps =>
          t.rVar = some .init ∧ t.iNonce = some nonce ∧ t.iCid = some cid ∧ t.iProto = some proto ∧
            t.iMajor = some major ∧ t.iMinor = some minor ∧ t.iBuild = some build ∧ t.iCaps = some caps
        | .message data sw1 sw2 =>
          t.rVar = some .message ∧ t.mData = some data ∧ t.mSw1 = some sw1 ∧ t.mSw2 = some sw2 ∧
            t.mOk = some (decide (sw1 = 0x90#8 ∧ sw2 = 0x00#8))
        | .error code => t.rVar = some .error ∧ t.eCode = some code
        | .unknown => t.rVar = some .unknown) ∧
      (t.rVar ≠ some .init →
        t.iNonce = none ∧ t.iCid = none ∧ t.iProto = none ∧ t.iMajor = none ∧ t.iMinor = none ∧ t.iBuild = none ∧
          t.iCaps = none) ∧
      (t.rVar ≠ some .message → t.mData = none ∧ t.mSw1 = none ∧ t.mSw2 = none ∧ t.mOk = none) ∧
      (t.rVar ≠ some .error → t.eCode = none) ∧
      t.txv = s.txv ∧ t.txbuf = s.txbuf ∧ t.fault = s.fault

/-- R141: the complete decision table of DEC for `L ≥ 7`, row by row. -/
def Obligations.DecDecisionTable : Prop :=
  ∀ (raw : Bytes) (s : State) (dlen : Nat) (h : 7 ≤ raw.length), dlen = (raw[5] ++ raw[6] : BitVec 16).toNat →
    ∃ t, exec (.dec raw) s = .next t ∧
      if ¬ (0 < dlen ∧ dlen ≤ raw.length - 7) then t.rRv = some false ∧ t.rVar = some .unknown
      else
        t.rRv = some true ∧
          if raw[4] = 0x86#8 then t.rVar = some (if dlen ≤ 16 then .unknown else .init)
          else if raw[4] = 0x83#8 then t.rVar = some (if dlen = 1 then .unknown else .message)
          else if raw[4] = 0xBF#8 then t.rVar = some .error
          else t.rVar = some .unknown

/-- R74, R132: an INIT response, field by field, at the offsets of the layout; bytes from region index 17 on are
ignored, and the other variants' elements hold no value. The offsets and the big-endian channel id are the spec's
decisions D7 and D6. -/
def Obligations.InitFieldsFromRegion : Prop :=
  ∀ (raw : Bytes) (s : State) (dlen : Nat) (h : 24 ≤ raw.length), dlen = (raw[5] ++ raw[6] : BitVec 16).toNat →
    raw[4] = 0x86#8 → 17 ≤ dlen → dlen ≤ raw.length - 7 →
      ∃ t, exec (.dec raw) s = .next t ∧ t.rVar = some .init ∧
        t.iNonce = some ((raw.drop 7).take 8) ∧
        t.iCid = some (raw[15] ++ raw[16] ++ raw[17] ++ raw[18] : BitVec 32) ∧
        t.iProto = some raw[19] ∧ t.iMajor = some raw[20] ∧ t.iMinor = some raw[21] ∧ t.iBuild = some raw[22] ∧
        t.iCaps = some raw[23] ∧
        t.mData = none ∧ t.mSw1 = none ∧ t.mSw2 = none ∧ t.mOk = none ∧ t.eCode = none

/-- R75, R134, R135: a MESSAGE response: the last two bytes of the region are the status bytes, everything before them
is the data, and `M_OK` holds exactly for (0x90, 0x00). -/
def Obligations.MessageFieldsFromRegionEnd : Prop :=
  ∀ (raw : Bytes) (s : State) (dlen : Nat) (h : 7 ≤ raw.length), dlen = (raw[5] ++ raw[6] : BitVec 16).toNat →
    raw[4] = 0x83#8 → 2 ≤ dlen → dlen ≤ raw.length - 7 →
      ∃ t sw1 sw2, exec (.dec raw) s = .next t ∧ raw[5 + dlen]? = some sw1 ∧ raw[6 + dlen]? = some sw2 ∧
        t.rVar = some .message ∧ t.mData = some ((raw.drop 7).take (dlen - 2)) ∧ t.mSw1 = some sw1 ∧
        t.mSw2 = some sw2 ∧ t.mOk = some (decide (sw1 = 0x90#8 ∧ sw2 = 0x00#8)) ∧
        t.iNonce = none ∧ t.iCid = none ∧ t.iProto = none ∧ t.iMajor = none ∧ t.iMinor = none ∧ t.iBuild = none ∧
        t.iCaps = none ∧ t.eCode = none

/-- R76: an ERROR response: the code is `ERRMAP` of the region's first byte, whatever map the parameters give; further
bytes are ignored (decision D9). -/
def Obligations.ErrorCodeFromFirstByte : Prop :=
  ∀ (raw : Bytes) (s : State) (dlen : Nat) (h : 8 ≤ raw.length), dlen = (raw[5] ++ raw[6] : BitVec 16).toNat →
    raw[4] = 0xBF#8 → 1 ≤ dlen → dlen ≤ raw.length - 7 →
      ∃ t, exec (.dec raw) s = .next t ∧ t.rVar = some .error ∧ t.eCode = some (errMap s.cfg.errTable raw[7]) ∧
        t.iNonce = none ∧ t.iCid = none ∧ t.iProto = none ∧ t.iMajor = none ∧ t.iMinor = none ∧ t.iBuild = none ∧
        t.iCaps = none ∧ t.mData = none ∧ t.mSw1 = none ∧ t.mSw2 = none ∧ t.mOk = none

/-- R6: `RX_MAX` is at least 7 for every choice of the parameters, so a transport that keeps to it can deliver every
buffer of up to a header's length; and what it delivers gives a present region of 1 to `RX_MAX − 7` bytes: 57 for the
default 64 (R113). -/
def Obligations.DeliveredRegionIsBounded : Prop :=
  (∀ (c : Config) (cid : ChannelId) (cmd : Byte) (raw : Bytes), raw.length ≤ 7 →
      deliverable c (.host 0b10#2 cid cmd [] raw)) ∧
    ∀ (cid : ChannelId) (cmd : Byte) (payload raw : Bytes) (s : State),
      deliverable s.cfg (.host 0b10#2 cid cmd payload raw) → 7 ≤ raw.length →
        ∃ t, exec (decode (.host 0b10#2 cid cmd payload raw)) s = .next t ∧
          ∀ region, t.rRegion = some region → 1 ≤ region.length ∧ region.length + 7 ≤ s.cfg.rxMax

/-- R139: UNKNOWN is the result in exactly the four cases (a) to (d); it holds no field, sets no `FAULT` bit, and the
frame stage still holds its values, the region too where it is present. -/
def Obligations.UnknownInExactlyFourCases : Prop :=
  ∀ (raw : Bytes) (s : State) (dlen : Nat) (h : 7 ≤ raw.length), dlen = (raw[5] ++ raw[6] : BitVec 16).toNat →
    ∃ t, exec (.dec raw) s = .next t ∧ t.fault = s.fault ∧
      (t.rVar = some .unknown ↔
        ¬ (0 < dlen ∧ dlen ≤ raw.length - 7) ∨ (raw[4] = 0x86#8 ∧ dlen < 17) ∨ (raw[4] = 0x83#8 ∧ dlen < 2) ∨
          (raw[4] ≠ 0x86#8 ∧ raw[4] ≠ 0x83#8 ∧ raw[4] ≠ 0xBF#8)) ∧
      (t.rVar = some .unknown →
        t.iNonce = none ∧ t.iCid = none ∧ t.iProto = none ∧ t.iMajor = none ∧ t.iMinor = none ∧ t.iBuild = none ∧
          t.iCaps = none ∧ t.mData = none ∧ t.mSw1 = none ∧ t.mSw2 = none ∧ t.mOk = none ∧ t.eCode = none ∧
          t.rCid = some (raw[0] ++ raw[1] ++ raw[2] ++ raw[3] : BitVec 32) ∧ t.rCmd = some raw[4] ∧
          t.rDlen = some (raw[5] ++ raw[6] : BitVec 16) ∧
          t.rRv = some (decide (0 < dlen ∧ dlen ≤ raw.length - 7)) ∧
          (0 < dlen ∧ dlen ≤ raw.length - 7 → t.rRegion = some ((raw.drop 7).take dlen)))

/-- The bytes DEC has not been told to read have no effect on any state element (the spec derives this from R112 to
R114): two buffers of one length that agree on the header, and on the region where it is present, decode alike. -/
def Obligations.BytesOutsideRegionIgnored : Prop :=
  ∀ (raw raw' : Bytes) (s : State) (dlen : Nat) (h : 7 ≤ raw.length),
    dlen = (raw[5] ++ raw[6] : BitVec 16).toNat → raw'.length = raw.length → raw'.take 7 = raw.take 7 →
      (0 < dlen ∧ dlen ≤ raw.length - 7 → raw'.take (7 + dlen) = raw.take (7 + dlen)) →
        exec (.dec raw') s = exec (.dec raw) s

/-- The "parses iff" properties, with the command byte the source's sentence leaves implicit (conflict C7): over every
buffer of at least 7 bytes, read off the state after DEC. -/
def Obligations.VariantsParseIff : Prop :=
  ∀ (raw : Bytes) (s : State), 7 ≤ raw.length →
    ∃ t d, exec (.dec raw) s = .next t ∧ t.rDlen = some d ∧
      (t.rVar = some .init ↔ t.rRv = some true ∧ t.rCmd = some 0x86#8 ∧ 17 ≤ d.toNat) ∧
      (t.rVar = some .message ↔ t.rRv = some true ∧ t.rCmd = some 0x83#8 ∧ 2 ≤ d.toNat) ∧
      (t.rVar = some .error ↔ t.rRv = some true ∧ t.rCmd = some 0xBF#8)

/-! ### The payload stage and the error-code rows -/

/-- R131: the dispatch of PDEC on its own, arm by arm, for every map, command byte and region, the empty region
included. -/
def Obligations.PdecDispatch : Prop :=
  ∀ (table : List (Byte × ErrorCode)) (cmd : Byte),
    pdec table cmd none = .unknown ∧
      ∀ s : Bytes,
        (∀ h : 17 ≤ s.length, cmd = 0x86#8 →
          pdec table cmd (some s) =
            .init (s.take 8) (s[8] ++ s[9] ++ s[10] ++ s[11] : BitVec 32) s[12] s[13] s[14] s[15] s[16]) ∧
        (cmd = 0x86#8 → s.length < 17 → pdec table cmd (some s) = .unknown) ∧
        (∀ h : 2 ≤ s.length, cmd = 0x83#8 →
          pdec table cmd (some s) = .message (s.take (s.length - 2)) s[s.length - 2] s[s.length - 1]) ∧
        (cmd = 0x83#8 → s.length < 2 → pdec table cmd (some s) = .unknown) ∧
        (cmd = 0xBF#8 →
          pdec table cmd (some s) = .error (match s with | [] => .unknown | c :: _ => errMap table c)) ∧
        (cmd ≠ 0x86#8 → cmd ≠ 0x83#8 → cmd ≠ 0xBF#8 → pdec table cmd (some s) = .unknown)

/-- The row PD.INIT run on its own (log 3, a model's choice) completes with R138's effect for its variant, and below 17
bytes with UNKNOWN's. Nothing outside the payload stage changes. -/
def Obligations.PdInitWritesInitOrUnknown : Prop :=
  ∀ (s : Bytes) (st : State),
    (∀ h : 17 ≤ s.length,
        exec (.pdInit s) st =
          .next
            { st with
              rVar := some .init
              iNonce := some (s.take 8), iCid := some (s[8] ++ s[9] ++ s[10] ++ s[11] : BitVec 32)
              iProto := some s[12], iMajor := some s[13], iMinor := some s[14], iBuild := some s[15]
              iCaps := some s[16]
              mData := none, mSw1 := none, mSw2 := none, mOk := none, eCode := none }) ∧
      (s.length < 17 →
        exec (.pdInit s) st =
          .next
            { st with
              rVar := some .unknown
              iNonce := none, iCid := none, iProto := none, iMajor := none, iMinor := none, iBuild := none
              iCaps := none, mData := none, mSw1 := none, mSw2 := none, mOk := none, eCode := none })

/-- The row PD.MSG run on its own (log 3) completes with R138's effect for its variant, and below 2 bytes with
UNKNOWN's. Nothing outside the payload stage changes. -/
def Obligations.PdMsgWritesMessageOrUnknown : Prop :=
  ∀ (s : Bytes) (st : State),
    (∀ h : 2 ≤ s.length,
        exec (.pdMsg s) st =
          .next
            { st with
              rVar := some .message
              mData := some (s.take (s.length - 2)), mSw1 := some s[s.length - 2], mSw2 := some s[s.length - 1]
              mOk := some (decide (s[s.length - 2] = 0x90#8 ∧ s[s.length - 1] = 0x00#8))
              iNonce := none, iCid := none, iProto := none, iMajor := none, iMinor := none, iBuild := none
              iCaps := none, eCode := none }) ∧
      (s.length < 2 →
        exec (.pdMsg s) st =
          .next
            { st with
              rVar := some .unknown
              iNonce := none, iCid := none, iProto := none, iMajor := none, iMinor := none, iBuild := none
              iCaps := none, mData := none, mSw1 := none, mSw2 := none, mOk := none, eCode := none })

/-- The row PD.ERROR run on its own (log 3) completes with the code of the first byte, and with Unknown on an empty
region, under every map. Nothing outside the payload stage changes. -/
def Obligations.PdErrorWritesCode : Prop :=
  ∀ (s : Bytes) (st : State),
    exec (.pdError s) st =
      .next
        { st with
          rVar := some .error
          eCode := some (match s with | [] => .unknown | c :: _ => errMap st.cfg.errTable c)
          iNonce := none, iCid := none, iProto := none, iMajor := none, iMinor := none, iBuild := none
          iCaps := none, mData := none, mSw1 := none, mSw2 := none, mOk := none }

/-- The two PD.UNKNOWN rows run on their own (log 3) complete with R138's effect for Unknown: the tag and no field. -/
def Obligations.PdUnknownWritesNoField : Prop :=
  ∀ (i : Instr) (st : State),
    ((∃ cmd, i = .pdUnknownAbsent cmd) ∨ ∃ cmd region, i = .pdUnknownOther cmd region) →
      exec i st =
        .next
          { st with
            rVar := some .unknown
            iNonce := none, iCid := none, iProto := none, iMajor := none, iMinor := none, iBuild := none
            iCaps := none, mData := none, mSw1 := none, mSw2 := none, mOk := none, eCode := none }

/-- The eleven error-code rows run on their own (log 3, log 5) complete with the Error variant of their code: for each
code the row's instruction, whatever code byte stands beside it. -/
def Obligations.ErrorRowsDeliverTheirCode : Prop :=
  ∀ (c : ErrorCode) (code : Byte) (st : State),
    exec (errInstr code c) st =
      .next
        { st with
          rVar := some .error, eCode := some c
          iNonce := none, iCid := none, iProto := none, iMajor := none, iMinor := none, iBuild := none
          iCaps := none, mData := none, mSw1 := none, mSw2 := none, mOk := none }

/-- R110, R78: DEC of at least 7 bytes is the frame stage followed by the payload-stage row that the command map selects
for the command byte and the region FDEC found (log 3 gives the row a run of its own). -/
def Obligations.DecIsFrameStageThenSelectedRow : Prop :=
  ∀ (raw : Bytes) (s : State) (f : FrameStage), fdec raw = some f →
    exec (.dec raw) s = exec (decode (.payload f.cmd f.region)) (s.writeFrame f)

/-- Under every map, PD.ERROR of a non-empty region does what the error-code row selected by its first byte does
(log 3, log 5). -/
def Obligations.PdErrorAgreesWithErrorRows : Prop :=
  ∀ (c : Byte) (rest : Bytes) (s : State),
    exec (.pdError (c :: rest)) s = exec (decodeUnder s.cfg.errTable (.errCode c)) s

/-! ### Round trip -/

/-- The round-trip law (the spec derives it from R102, R112, R113, R114): for a payload of 1 to 57 bytes, ENC and then
DEC of `TXBUF[1..65]` recover the channel id, the command byte and the payload, and the variant is PDEC's. -/
def Obligations.RoundTripThroughLoopback : Prop :=
  ∀ (cid : ChannelId) (cmd : Byte) (payload : Bytes) (s : State), 1 ≤ payload.length → payload.length ≤ 57 →
    ∃ t u raw, exec (.enc cid cmd payload) s = .next t ∧ loopbackRaw t = some raw ∧ exec (.dec raw) t = .next u ∧
      u.rCid = some cid ∧ u.rCmd = some cmd ∧ u.rDlen = some (BitVec.ofNat 16 payload.length) ∧
      u.rRv = some true ∧ u.rRegion = some payload ∧
      u.heldVariant = some (pdec s.cfg.errTable cmd (some payload))

/-- Where the law fails as the source words it, part (a): an empty payload is encoded, its channel id and command byte
come back, and its region is absent. -/
def Obligations.EmptyPayloadDecodesAbsent : Prop :=
  ∀ (cid : ChannelId) (cmd : Byte) (s : State),
    ∃ t u raw, exec (.enc cid cmd []) s = .next t ∧ loopbackRaw t = some raw ∧ exec (.dec raw) t = .next u ∧
      u.rCid = some cid ∧ u.rCmd = some cmd ∧ u.rDlen = some 0#16 ∧ u.rRv = some false ∧ u.rRegion = none ∧
      u.rVar = some .unknown

/-- Part (b): all 65 bytes handed to DEC, report id included, decode without a fault, shifted by one byte, to
UNKNOWN. -/
def Obligations.UnstrippedReportDecodesShifted : Prop :=
  ∀ (cid : ChannelId) (cmd : Byte) (payload : Bytes) (s : State), payload.length ≤ 57 →
    ∃ t u report, exec (.enc cid cmd payload) s = .next t ∧ t.txbuf = some report ∧ exec (.dec report) t = .next u ∧
      u.fault = s.fault ∧ u.rCid = some (BitVec.ofNat 32 (cid.toNat / 256)) ∧
      u.rCmd = some (BitVec.ofNat 8 cid.toNat) ∧ u.rDlen = some (BitVec.ofNat 16 (cmd.toNat * 256)) ∧
      u.rRv = some false ∧ u.rVar = some .unknown

/-! ### Faults, independence and purity -/

/-- R160: exactly two faults. What each operation does to `FAULT`, for every instruction and every state: only an
over-long ENC and a short DEC set a bit, RST clears both, nothing else writes the register. -/
def Obligations.OnlyTwoFaults : Prop :=
  ∀ (i : Instr) (s t : State), exec i s = .next t →
    t.fault =
      match i with
      | .enc _ _ payload => if 57 < payload.length then s.fault ||| 0b01#2 else s.fault
      | .dec raw => if raw.length < 7 then s.fault ||| 0b10#2 else s.fault
      | .rst => 0#2
      | _ => s.fault

/-- R164: the bits are sticky through a run: over any number of steps with no RST waiting, a run that ends good started
good, and every bit set at its start is set at its end. -/
def Obligations.FaultNeverForgottenInRun : Prop :=
  ∀ (k : Nat) (s t : State), s.noReset → Host.Core.run core k s = .next t →
    s.fault &&& t.fault = s.fault ∧ (t.good → s.good)

/-- R36: ENC writes nothing of the RX group and DEC nothing of the TX group; `FAULT` only grows; so ENC and DEC, in
either order, leave the same state. -/
def Obligations.EncAndDecAreIndependent : Prop :=
  ∀ (cid : ChannelId) (cmd : Byte) (payload raw : Bytes) (s : State),
    ∃ t u v, exec (.enc cid cmd payload) s = .next t ∧ exec (.dec raw) s = .next u ∧
      exec (.dec raw) t = .next v ∧ exec (.enc cid cmd payload) u = .next v ∧
      (∀ e : Element, e ≠ .txv → e ≠ .txbuf → e ≠ .fault → t.element e = s.element e) ∧
      (u.txv = s.txv ∧ u.txbuf = s.txbuf) ∧
      s.fault &&& t.fault = s.fault ∧ s.fault &&& u.fault = s.fault

/-- R38: no hidden state: two DEC commands with equal `raw` give equal RX groups, and two ENC commands with equal
operands give equal `TXBUF`, whatever the two states before them, under one set of parameters. -/
def Obligations.ResultsDependOnOperandsAlone : Prop :=
  ∀ (s s' : State), s.cfg = s'.cfg →
    (∀ raw, ∃ t t', exec (.dec raw) s = .next t ∧ exec (.dec raw) s' = .next t' ∧
      ∀ e : Element, e ≠ .txv → e ≠ .txbuf → e ≠ .fault → t.element e = t'.element e) ∧
    (∀ cid cmd payload, ∃ t t', exec (.enc cid cmd payload) s = .next t ∧ exec (.enc cid cmd payload) s' = .next t' ∧
      t.txv = t'.txv ∧ t.txbuf = t'.txbuf)

/-- R58: ENC and DEC are idempotent: the same command with the same operands twice leaves the same state as once,
`FAULT` included. -/
def Obligations.EncAndDecAreIdempotent : Prop :=
  ∀ (i : Instr) (s : State), ((∃ cid cmd payload, i = .enc cid cmd payload) ∨ ∃ raw, i = .dec raw) →
    ∃ t, exec i s = .next t ∧ exec i t = .next t

/-- The source's response, the projection (channel id, variant) of `dec(raw)`, is what the state holds after DEC
(R34, R117). -/
def Obligations.ResponseFrameIsProjection : Prop :=
  ∀ (raw : Bytes) (s : State), 7 ≤ raw.length →
    ∃ t r, exec (.dec raw) s = .next t ∧ responseOf s.cfg.errTable raw = some r ∧ responseFrame t = some r

/-! ### Host reads -/

/-- R30: the valid bits tell the host in advance: where they do, an element that is promised can be read and any other
read is refused by name. -/
def Obligations.HostReadsFollowValidBits : Prop :=
  ∀ (s : State) (e : Element), s.validBits →
    (s.promises e = true → ∃ v, s.element e = some v ∧ hostRead e s = .ok v) ∧
      (s.promises e = false → hostRead e s = .error (.noValue e))

/-! ### Encodings -/

/-- Decode and encode agree: every instruction the table's rows admit, with every operand at every value, is decoded
from its encoding. -/
def Obligations.DecodeEncodeAgree : Prop :=
  ∀ i : Instr, i.wellFormed = true → decode (encode i) = i

/-- The other direction: every request decodes to a well-formed instruction, whose encoding is the request with its
unread operand ports cleared. -/
def Obligations.EncodeDecodeCanonical : Prop :=
  ∀ q : Request, (decode q).wellFormed = true ∧ encode (decode q) = q.canonical

/-- R84: the decoder selects, for every request, the row of the opcode table that the request hits with the smallest
priority; no other row hit has as small a one. -/
def Obligations.DecoderSelectsLeastPriorityRow : Prop :=
  opcodeTable.length = 20 ∧
    ∀ q : Request,
      ∃ r ∈ opcodeTable, r.mnemonic = (decode q).mnemonic ∧ r.hits q = true ∧
        ∀ r' ∈ opcodeTable, r'.hits q = true → r' = r ∨ r.priority < r'.priority

/-- Words written out from R77, R79 and R83 decode to the operations they stand for. -/
def Obligations.WordsDecodeAsTabled : Prop :=
  decode (.host 0b01#2 0xFFFFFFFF#32 0x86#8 [0x01#8, 0x02#8] []) = .enc 0xFFFFFFFF#32 0x86#8 [0x01#8, 0x02#8] ∧
    decode (.host 0b10#2 0#32 0#8 [] [0x55#8]) = .dec [0x55#8] ∧
    decode (.host 0b11#2 0#32 0#8 [] []) = .rst ∧
    decode (.payload 0x83#8 (some [0x90#8, 0x00#8])) = .pdMsg [0x90#8, 0x00#8] ∧
    decode (.payload 0xBF#8 none) = .pdUnknownAbsent 0xBF#8 ∧
    decode (.errCode 0x0A#8) = .errChannelRequiresLock ∧
    decode (.errCode 0x80#8) = .errUnknown 0x80#8

/-! ### The step -/

/-- A step performs the decoded command: the head of the waiting commands, decoded under the machine's `ERRMAP`, which
it takes away; with none waiting it is idle (log 1, the model's form of the host's command sequence). A well-formed
instruction that waits in its encoding is the one performed, an error-code row where the map is the opcode table's. -/
def Obligations.StepRunsNextCommand : Prop :=
  ∀ s : State,
    (∀ q rest, s.pending = q :: rest →
        step s = exec (decodeUnder s.cfg.errTable q) { s with pending := rest }) ∧
      (∀ i rest, i.wellFormed = true → (s.cfg.errTable = defaultErrTable ∨ (encode i).rowFormat ≠ .err8) →
        s.pending = encode i :: rest → step s = exec i { s with pending := rest }) ∧
      (s.pending = [] → step s = .next s)

/-- The machine never stops: every step from every state answers a next state (R194: "FC itself never stops, halts or
exits"; R116: DEC completes on every buffer), takes one command away and leaves the parameters as they are (R182). -/
def Obligations.EveryStepCompletes : Prop :=
  ∀ s : State, ∃ t, step s = .next t ∧ t.cfg = s.cfg ∧ t.pending = s.pending.tail

/-- The invariant of R30, R35 and R25's nonce length holds at reset. -/
def Obligations.InvariantAtReset : Prop := State.reset.Inv

/-- The invariant of R30 (valid bits), R35 (shapes of the groups) and R25 (8 bytes of a held nonce) is kept by every
step, from every state that meets it, while only the host's own commands wait. -/
def Obligations.EveryStepKeepsInvariant : Prop :=
  ∀ s t : State, s.Inv → step s = .next t → t.Inv

/-- The functional reading of R37 holds at reset. -/
def Obligations.FunctionalReadingAtReset : Prop := State.reset.functionalReading

/-- R37: every step keeps the functional reading: the TX group is `enc` of some operands or empty, the RX group is `dec`
of some buffer or empty. -/
def Obligations.EveryStepKeepsFunctionalReading : Prop :=
  ∀ s t : State, s.functionalReading → step s = .next t → t.functionalReading

/-- The functional reading implies the valid bits and the shapes, so R30, R35 and the nonce's 8 bytes
(R25) are consequences of R37. -/
def Obligations.FunctionalReadingGivesInvariant : Prop :=
  ∀ s : State, s.functionalReading → s.Inv
end

