-- ==== Sys2Proof/Machine/CommandText.lean ====
section
/-! DEFINITION. The textual form of the three host commands (spec/30_encoding.md R87, decision D17). Nothing in the step
depends on it; a run of equal bytes is written out, where the spec may also write `XX*k`. -/

namespace Sys2Proof.Machine

/-- One hexadecimal digit of `v`, upper case. -/
def hexDigit (v : Nat) : Char :=
  if v % 16 < 10 then Char.ofNat (48 + v % 16) else Char.ofNat (55 + v % 16)

/-- `v` in `digits` hexadecimal digits. -/
def hexText : Nat → Nat → List Char
  | 0, _ => []
  | digits + 1, v => hexText digits (v / 16) ++ [hexDigit v]

/-- "space-separated two-digit hexadecimal bytes", index 0 first (R87). -/
def bytesText : Bytes → List Char
  | [] => []
  | [b] => hexText 2 b.toNat
  | b :: rest => hexText 2 b.toNat ++ [' '] ++ bytesText rest

/-- A byte sequence "between square brackets" (R87). -/
def bracketText (s : Bytes) : List Char := ['['] ++ bytesText s ++ [']']

/-- A host command as R87 writes it; the other operations have no textual form in the spec. -/
def commandText : Instr → Option (List Char)
  | .enc cid cmd payload =>
    some (['E', 'N', 'C', ' ', 'c', 'i', 'd', '=', '0', 'x'] ++ hexText 8 cid.toNat ++
      [' ', 'c', 'm', 'd', '=', '0', 'x'] ++ hexText 2 cmd.toNat ++
      [' ', 'p', 'a', 'y', 'l', 'o', 'a', 'd', '='] ++ bracketText payload)
  | .dec raw => some (['D', 'E', 'C', ' ', 'r', 'a', 'w', '='] ++ bracketText raw)
  | .rst => some ['R', 'S', 'T']
  | .idle | .pdUnknownAbsent _ | .pdInit _ | .pdMsg _ | .pdError _ | .pdUnknownOther _ _ => none
  | .errNone | .errInvalidCommand | .errInvalidParameter | .errInvalidMessageLength => none
  | .errInvalidMessageSequencing | .errMessageTimeout | .errChannelBusy => none
  | .errChannelRequiresLock | .errSyncCommandFailed | .errUnspecified | .errUnknown _ => none

end Sys2Proof.Machine
end

