-- ==== Sys2Proof/Tests/Slice0.lean ====
section
/-! SUPPORT. Our own tests: decoding and encoding of words written out from the spec's tables, the well-formedness
checks, one step at a time on vectors of spec/95_test_vectors.md (each test names its vectors), and for every statement
with hypotheses a witness that meets them. -/

namespace Sys2Proof.Tests

open Sys2Proof
open Sys2Proof.Machine

/-- The state after one operation, from `State.reset` unless another state is given. -/
def after (i : Instr) (s : State := State.reset) : Option State :=
  match exec i s with
  | .next t => some t
  | .fault _ => none
  | .refused _ => none

/-- The state after one step. -/
def afterStep (s : State) : Option State :=
  match step s with
  | .next t => some t
  | .fault _ => none
  | .refused _ => none

/-- The bytes 0x01 to `n`. -/
def upTo (n : Nat) : Bytes := (List.range n).map fun i => BitVec.ofNat 8 (i + 1)

/-- The nonce 01 to 08 followed by the INIT fields of vector V-D1. -/
def initRegion : Bytes := upTo 8 ++ [0x12#8, 0x34#8, 0x56#8, 0x78#8, 0x02#8, 0x01#8, 0x00#8, 0x03#8, 0x01#8]

/-- A received report: header, then `rest`, padded with zeros to `len` bytes. -/
def report (cid : Bytes) (cmd : Byte) (dlen rest : Bytes) (len : Nat) : Bytes :=
  let b := cid ++ [cmd] ++ dlen ++ rest
  b ++ zeros (len - b.length)

def cidA : Bytes := [0x12#8, 0x34#8, 0x56#8, 0x78#8]

def cidF : Bytes := [0xFF#8, 0xFF#8, 0xFF#8, 0xFF#8]

def cid1 : Bytes := [0x00#8, 0x00#8, 0x00#8, 0x01#8]

/-- Vector V-D4's buffer. -/
def rawVD4 : Bytes :=
  report cidA 0x83#8 [0x00#8, 0x08#8] [0x55#8, 0x32#8, 0x46#8, 0x5F#8, 0x56#8, 0x32#8, 0x90#8, 0x00#8] 64

/-! ### Decoding words written out from the spec's tables (R77, R79, R83) -/

theorem test_decode_host :
    decode (.host 0b00#2 0x12345678#32 0x83#8 [1#8] [2#8]) = .idle ∧
      decode (.host 0b01#2 0x12345678#32 0x83#8 [1#8] [2#8]) = .enc 0x12345678#32 0x83#8 [1#8] ∧
      decode (.host 0b10#2 0x12345678#32 0x83#8 [1#8] [2#8]) = .dec [2#8] ∧
      decode (.host 0b11#2 0x12345678#32 0x83#8 [1#8] [2#8]) = .rst := by decide

theorem test_decode_payload :
    decode (.payload 0b10000110#8 none) = .pdUnknownAbsent 0x86#8 ∧
      decode (.payload 0b10000110#8 (some (upTo 17))) = .pdInit (upTo 17) ∧
      decode (.payload 0b10000110#8 (some (upTo 16))) = .pdUnknownOther 0x86#8 (upTo 16) ∧
      decode (.payload 0b10000011#8 (some (upTo 2))) = .pdMsg (upTo 2) ∧
      decode (.payload 0b10000011#8 (some (upTo 1))) = .pdUnknownOther 0x83#8 (upTo 1) ∧
      decode (.payload 0b10111111#8 (some (upTo 1))) = .pdError (upTo 1) ∧
      decode (.payload 0b10111111#8 (some [])) = .pdError [] ∧
      decode (.payload 0b00000011#8 (some (upTo 2))) = .pdUnknownOther 0x03#8 (upTo 2) := by decide

theorem test_decode_errCode :
    decode (.errCode 0b00000000#8) = .errNone ∧ decode (.errCode 0b00000001#8) = .errInvalidCommand ∧
      decode (.errCode 0b00000010#8) = .errInvalidParameter ∧
      decode (.errCode 0b00000011#8) = .errInvalidMessageLength ∧
      decode (.errCode 0b00000100#8) = .errInvalidMessageSequencing ∧
      decode (.errCode 0b00000101#8) = .errMessageTimeout ∧ decode (.errCode 0b00000110#8) = .errChannelBusy ∧
      decode (.errCode 0b00001010#8) = .errChannelRequiresLock ∧
      decode (.errCode 0b00001011#8) = .errSyncCommandFailed ∧ decode (.errCode 0b01111111#8) = .errUnspecified ∧
      decode (.errCode 0b00000111#8) = .errUnknown 0x07#8 ∧ decode (.errCode 0b10000000#8) = .errUnknown 0x80#8 := by
  decide

/-- The opcode table's words, read as the table numbers their bits; where the formats' numbers overlap see log 8. -/
theorem test_decodeTableWord :
    decodeTableWord 8 0 = some .idle ∧ decodeTableWord 2 1 = some (.enc 0#32 0#8 (zeros 57)) ∧
      decodeTableWord 8 2 = some (.dec (zeros 64)) ∧ decodeTableWord 8 3 = some .rst ∧
      decodeTableWord 8 0x86 = some (.pdInit (zeros 57)) ∧ decodeTableWord 8 0x83 = some (.pdMsg (zeros 57)) ∧
      decodeTableWord 8 0xBF = some (.pdError (zeros 57)) ∧ decodeTableWord 8 0x04 = some .errInvalidMessageSequencing ∧
      decodeTableWord 8 0x7F = some .errUnspecified ∧ decodeTableWord 8 256 = none := by decide

/-- The very next step runs the word's operation. -/
theorem test_withFetchWord :
    (afterStep (State.reset.withFetchWord 8 0x86)).bind (·.rVar) = some .init ∧
      (afterStep (State.reset.withFetchWord 8 0x7F)).bind (·.eCode) = some .unspecified ∧
      (afterStep (State.reset.withFetchWord 8 1)).map (·.txv) = some true ∧
      (afterStep (State.reset.withFetchWord 8 2)).map (·.rxv) = some true := by decide

/-! ### Well-formedness: each check refuses an ill-formed term -/

theorem test_wellFormed_refuses :
    (Instr.pdInit (upTo 16)).wellFormed = false ∧ (Instr.pdMsg (upTo 1)).wellFormed = false ∧
      (Instr.pdUnknownOther 0x86#8 (upTo 17)).wellFormed = false ∧
      (Instr.pdUnknownOther 0x83#8 (upTo 2)).wellFormed = false ∧
      (Instr.pdUnknownOther 0xBF#8 (upTo 1)).wellFormed = false ∧
      (Instr.errUnknown 0x7F#8).wellFormed = false := by decide

theorem test_wellFormed_accepts :
    (Instr.pdInit (upTo 17)).wellFormed = true ∧ (Instr.pdMsg (upTo 2)).wellFormed = true ∧
      (Instr.pdUnknownOther 0x86#8 (upTo 16)).wellFormed = true ∧ (Instr.errUnknown 0x09#8).wellFormed = true := by decide

/-! ### Helpers (R8, R24, R27, R86) -/

theorem test_byte_order :
    be32Bytes 0xA1B2C3D4 = [0xA1#8, 0xB2#8, 0xC3#8, 0xD4#8] ∧ be16Bytes 0x0102 = [0x01#8, 0x02#8] ∧
      be32 [0xA1#8, 0xB2#8, 0xC3#8, 0xD4#8] 0 (by decide) = 0xA1B2C3D4 ∧ be16 [0x01#8, 0x02#8] 0 (by decide) = 258 := by
  decide

theorem test_encodings_of_tags :
    variantBits .error = 3#2 ∧ errorCodeBits .unknown = 10#4 ∧ errorCodeBits .none = 0#4 ∧
      declaresNmsg 0x0C#8 = true ∧ declaresNmsg 0x01#8 = false := by decide

/-! ### ENC (vectors V-E1, V-E4, V-E5, V-E6) -/

theorem test_enc_reports :
    (after (.enc 0xFFFFFFFF#32 0x86#8 (upTo 8))).bind (·.txbuf) =
        some ([0x00#8, 0xFF#8, 0xFF#8, 0xFF#8, 0xFF#8, 0x86#8, 0x00#8, 0x08#8] ++ upTo 8 ++ zeros 49) ∧
      (after (.enc 0x00000001#32 0x83#8 [])).bind (·.txbuf) =
        some ([0x00#8, 0x00#8, 0x00#8, 0x00#8, 0x01#8, 0x83#8] ++ zeros 59) ∧
      (after (.enc 0xA1B2C3D4#32 0x83#8 (upTo 57))).bind (·.txbuf) =
        some ([0x00#8, 0xA1#8, 0xB2#8, 0xC3#8, 0xD4#8, 0x83#8, 0x00#8, 0x39#8] ++ upTo 57) := by decide

theorem test_enc_overlong :
    (after (.enc 0xA1B2C3D4#32 0x83#8 (upTo 58))).map (fun t => (t.fault, t.txv, t.txbuf)) =
      some (0b01#2, false, none) := by decide

/-! ### DEC (vectors V-D1, V-D4, V-D11, V-D12, V-D14, V-D16, V-D20) -/

theorem test_dec_vectors :
    [(after (.dec rawVD4)).any fun t =>
        t.rCid == some 0x12345678#32 && t.rDlen == some 8#16 && t.rVar == some .message &&
          t.mData == some [0x55#8, 0x32#8, 0x46#8, 0x5F#8, 0x56#8, 0x32#8] && t.mSw1 == some 0x90#8 &&
          t.mSw2 == some 0x00#8 && t.mOk == some true,
      (after (.dec (report cidF 0x86#8 [0x00#8, 0x11#8] initRegion 64))).any fun t =>
        t.rVar == some .init && t.iNonce == some (upTo 8) && t.iCid == some 0x12345678#32 && t.iProto == some 0x02#8 &&
          t.iMajor == some 0x01#8 && t.iMinor == some 0x00#8 && t.iBuild == some 0x03#8 && t.iCaps == some 0x01#8,
      (after (.dec (report cidF 0x86#8 [0x00#8, 0x11#8] (initRegion.take 13) 20))).any fun t =>
        t.rRv == some false && t.rVar == some .unknown && t.rDlen == some 17#16,
      (after (.dec (report cid1 0x83#8 [0x01#8, 0x02#8] [0x90#8] 64))).any fun t =>
        t.rDlen == some 258#16 && t.rRv == some false] = [true, true, true, true] := by decide

set_option maxRecDepth 4000 in
theorem test_dec_boundaries :
    [(after (.dec [0x00#8, 0x00#8, 0x00#8, 0x01#8, 0xBF#8, 0x00#8])).any fun t =>
        t.fault == 0b10#2 && t.rxv == false && t.rVar == none,
      (after (.dec [0x00#8, 0x00#8, 0x00#8, 0x01#8, 0xBF#8, 0x00#8, 0x01#8])).any fun t =>
        t.fault == 0#2 && t.rCmd == some 0xBF#8 && t.rRv == some false && t.rVar == some .unknown,
      (after (.dec [0x00#8, 0x00#8, 0x00#8, 0x01#8, 0xBF#8, 0x00#8, 0x01#8, 0x06#8])).any fun t =>
        t.rRegion == some [0x06#8] && t.eCode == some .channelBusy,
      (after (.dec (report cidA 0x83#8 [0x00#8, 0x39#8] (upTo 57) 64))).any fun t =>
        t.rRv == some true && t.mSw1 == some 0x38#8 && t.mSw2 == some 0x39#8 && t.mOk == some false,
      (after (.dec (report cidA 0x83#8 [0x00#8, 0x3A#8] (upTo 57) 64))).any fun t =>
        t.rRv == some false && t.rVar == some .unknown && t.rRegion == none] = [true, true, true, true, true] := by decide

/-! ### The payload stage on its own (vectors V-P1 to V-P14) -/

theorem test_pdec_vectors :
    pdec defaultErrTable 0x86#8 (some initRegion) =
        .init (upTo 8) 0x12345678#32 0x02#8 0x01#8 0x00#8 0x03#8 0x01#8 ∧
      pdec defaultErrTable 0x86#8 (some (initRegion.take 16)) = .unknown ∧
      pdec defaultErrTable 0x83#8 (some [0x90#8, 0x00#8]) = .message [] 0x90#8 0x00#8 ∧
      pdec defaultErrTable 0x83#8 (some [0x90#8]) = .unknown ∧
      pdec defaultErrTable 0xBF#8 (some []) = .error .unknown ∧ pdec defaultErrTable 0xBF#8 none = .unknown ∧
      pdec defaultErrTable 0xFF#8 (some (upTo 17)) = .unknown ∧
      pdec defaultErrTable 0xBF#8 (some [0x7F#8]) = .error .unspecified ∧
      pdec defaultErrTable 0xBF#8 (some [0x0B#8]) = .error .syncCommandFailed ∧
      pdec defaultErrTable 0xBF#8 (some [0x07#8]) = .error .unknown ∧
      pdec defaultErrTable 0xBF#8 (some [0x80#8]) = .error .unknown := by decide

/-- PD.INIT after a message: the Message fields do not survive (V-S6, V-S7 with the variants exchanged). -/
theorem test_pdInit_discards_message :
    ((after (.dec rawVD4)).bind (fun s => after (.pdInit initRegion) s)).map (fun t => (t.rVar, t.iBuild, t.mData, t.mOk)) =
      some (some .init, some 0x03#8, none, none) := by decide

/-- V-D24: the status bytes are the last two of the region. -/
theorem test_pdMsg_status_last :
    (after (.pdMsg [0x90#8, 0x00#8, 0x90#8])).map (fun t => (t.mData, t.mSw1, t.mSw2, t.mOk)) =
      some (some [0x90#8], some 0x00#8, some 0x90#8, some false) := by decide

/-- V-D22: the code is the first byte. -/
theorem test_pdError_first_byte :
    (after (.pdError [0x0A#8, 0x01#8, 0x02#8])).map (fun t => (t.rVar, t.eCode)) =
      some (some .error, some .channelRequiresLock) := by decide

/-- V-P7 and V-D15: Unknown carries no field. -/
theorem test_pdUnknown_no_field :
    (after (.pdUnknownAbsent 0xBF#8)).map (fun t => (t.rVar, t.eCode)) = some (some .unknown, none) ∧
      (after (.pdUnknownOther 0x81#8 [0xDE#8, 0xAD#8, 0xBE#8])).map (fun t => (t.rVar, t.mData)) =
        some (some .unknown, none) := by decide

/-- The eleven error-code rows (R79). -/
theorem test_error_rows :
    [Instr.errNone, .errInvalidCommand, .errInvalidParameter, .errInvalidMessageLength, .errInvalidMessageSequencing,
        .errMessageTimeout, .errChannelBusy, .errChannelRequiresLock, .errSyncCommandFailed, .errUnspecified,
        .errUnknown 0x09#8].map (fun i => (after i).bind (·.eCode)) =
      [some .none, some .invalidCommand, some .invalidParameter, some .invalidMessageLength,
        some .invalidMessageSequencing, some .messageTimeout, some .channelBusy, some .channelRequiresLock,
        some .syncCommandFailed, some .unspecified, some .unknown] := by decide

/-! ### RST, IDLE, host reads (V-S1, V-S8, P5; R30) -/

theorem test_rst_clears_faults :
    ((after (.dec [])).bind fun s => after .rst s) = some State.reset ∧ (after .idle) = some State.reset := by decide

theorem test_host_reads :
    hostRead .txbuf State.reset = .error (.noValue .txbuf) ∧ hostRead .fault State.reset = .ok (.faultBits 0#2) ∧
      ((after (.dec rawVD4)).map (hostRead .mSw1)) = some (.ok (.byte 0x90#8)) ∧
      ((after (.dec rawVD4)).map (hostRead .iCid)) = some (.error (.noValue .iCid)) := by decide

/-- V-RT5: the loopback of an ERROR request. -/
theorem test_loopback :
    ((after (.enc 0xDEADBEEF#32 0xBF#8 [0x06#8])).bind loopbackRaw) =
      some (report [0xDE#8, 0xAD#8, 0xBE#8, 0xEF#8] 0xBF#8 [0x00#8, 0x01#8] [0x06#8] 64) := by decide

/-- The first example line of R87. -/
theorem test_commandText :
    commandText (.enc 0x12345678#32 0x83#8 [0x00#8, 0x03#8, 0x00#8, 0x00#8, 0x00#8, 0x00#8, 0x00#8]) =
      some "ENC cid=0x12345678 cmd=0x83 payload=[00 03 00 00 00 00 00]".toList := by decide

/-! ### Witnesses: for every statement with hypotheses, operands and states that meet them -/

theorem test_witness_ResetLeavesNoValue : ∃ s t : State, s ≠ State.reset ∧ exec .rst s = .next t :=
  ⟨{ State.reset with fault := 0b11#2 }, _, by decide, rfl⟩

theorem test_witness_RstRestoresReset :
    ∃ (i : Instr) (s t : State), i ≠ .rst ∧ exec i s = .next t ∧ s.fault = 0b01#2 :=
  ⟨.enc 1#32 0x83#8 [], { State.reset with fault := 0b01#2 }, _, by decide, rfl, rfl⟩

theorem test_witness_EncWritesReportOrFaults : (upTo 57).length ≤ 57 ∧ 58 ≤ (upTo 58).length := by decide

theorem test_witness_TransmitReportLayout : (upTo 57).length ≤ 57 ∧ ([] : Bytes).length ≤ 57 := by decide

theorem test_witness_EncTestNeedsOneMoreBit : 65528 < 2 ^ 16 ∧ 16 + 1 ≤ 17 ∧ 7 < 2 ^ 3 ∧ 3 + 1 ≤ 4 := by norm_num

theorem test_witness_DecShortTakesFault : (upTo 6).length < 7 ∧ ([] : Bytes).length < 7 := by decide

theorem test_witness_DecReadsHeader : 7 ≤ (upTo 7).length := by decide

theorem test_witness_DecComposesStages : 7 ≤ rawVD4.length := by decide

set_option maxRecDepth 4000 in
/-- V-D10 and V-D11: the boundary on both sides. -/
theorem test_witness_RegionPresentIffLengthFits :
    ∃ raw raw' : Bytes, ∃ (h : 7 ≤ raw.length) (h' : 7 ≤ raw'.length),
      (57 = (raw[5] ++ raw[6] : BitVec 16).toNat ∧ 0 < 57 ∧ 57 ≤ raw.length - 7) ∧
        58 = (raw'[5] ++ raw'[6] : BitVec 16).toNat ∧ ¬ (0 < 58 ∧ 58 ≤ raw'.length - 7) :=
  ⟨report cidA 0x83#8 [0x00#8, 0x39#8] (upTo 57) 64, report cidA 0x83#8 [0x00#8, 0x3A#8] (upTo 57) 64,
    by decide, by decide, by decide, by decide⟩

/-- One buffer for each row of the decision table, at the boundary of its range. -/
theorem test_witness_DecDecisionTable :
    ([report cidA 0xBF#8 [0x00#8, 0x00#8] [] 64, report cidA 0x86#8 [0x00#8, 0x10#8] [] 64,
        report cidA 0x86#8 [0x00#8, 0x11#8] [] 64, report cidA 0x83#8 [0x00#8, 0x01#8] [] 64,
        report cidA 0x83#8 [0x00#8, 0x02#8] [] 64, report cidA 0xBF#8 [0x00#8, 0x01#8] [] 64,
        report cidA 0x81#8 [0x00#8, 0x01#8] [] 64].map fun raw => (after (.dec raw)).map fun t => (t.rRv, t.rVar)) =
      [some (some false, some .unknown), some (some true, some .unknown), some (some true, some .init),
        some (some true, some .unknown), some (some true, some .message), some (some true, some .error),
        some (some true, some .unknown)] := by decide

/-- V-D17: the shortest buffer of an INIT response. -/
theorem test_witness_InitFieldsFromRegion :
    ∃ raw : Bytes, ∃ h : 24 ≤ raw.length,
      17 = (raw[5] ++ raw[6] : BitVec 16).toNat ∧ raw[4] = 0x86#8 ∧ 17 ≤ raw.length - 7 :=
  ⟨report cidF 0x86#8 [0x00#8, 0x11#8] initRegion 24, by decide, by decide, by decide, by decide⟩

/-- V-D5: the shortest MESSAGE region. -/
theorem test_witness_MessageFieldsFromRegionEnd :
    ∃ raw : Bytes, ∃ h : 7 ≤ raw.length,
      2 = (raw[5] ++ raw[6] : BitVec 16).toNat ∧ raw[4] = 0x83#8 ∧ 2 ≤ raw.length - 7 :=
  ⟨report cidA 0x83#8 [0x00#8, 0x02#8] [0x6D#8, 0x00#8] 64, by decide, by decide, by decide, by decide⟩

/-- V-D13: the smallest buffer with a present region. -/
theorem test_witness_ErrorCodeFromFirstByte :
    ∃ raw : Bytes, ∃ h : 8 ≤ raw.length,
      1 = (raw[5] ++ raw[6] : BitVec 16).toNat ∧ raw[4] = 0xBF#8 ∧ 1 ≤ raw.length - 7 :=
  ⟨[0x00#8, 0x00#8, 0x00#8, 0x01#8, 0xBF#8, 0x00#8, 0x01#8, 0x06#8], by decide, by decide, by decide, by decide⟩

/-- V-D12, V-D2, V-D6, V-D15: cases (a) to (d), and V-D4 outside them. -/
theorem test_witness_UnknownInExactlyFourCases :
    ([[0x00#8, 0x00#8, 0x00#8, 0x01#8, 0xBF#8, 0x00#8, 0x01#8], report cidF 0x86#8 [0x00#8, 0x10#8] initRegion 64,
        report cidA 0x83#8 [0x00#8, 0x01#8] [0x90#8] 64, report cid1 0x81#8 [0x00#8, 0x03#8] (upTo 3) 64,
        rawVD4].map fun raw => (after (.dec raw)).bind (·.rVar)) =
      [some .unknown, some .unknown, some .unknown, some .unknown, some .message] := by decide

/-- V-D4 and V-D28: the same header and region, other bytes after it. -/
theorem test_witness_BytesOutsideRegionIgnored :
    ∃ raw raw' : Bytes, ∃ h : 7 ≤ raw.length,
      raw ≠ raw' ∧ 8 = (raw[5] ++ raw[6] : BitVec 16).toNat ∧ raw'.length = raw.length ∧ raw'.take 7 = raw.take 7 ∧
        8 ≤ raw.length - 7 ∧ raw'.take (7 + 8) = raw.take (7 + 8) :=
  ⟨rawVD4, rawVD4.take 15 ++ List.replicate 49 0xAB#8, by decide, by decide, by decide, by decide, by decide, by decide,
    by decide⟩

theorem test_witness_VariantsParseIff : 7 ≤ rawVD4.length ∧ 7 ≤ (upTo 7).length := by decide

theorem test_witness_PdecDispatch :
    17 ≤ (upTo 17).length ∧ (upTo 16).length < 17 ∧ 2 ≤ (upTo 2).length ∧ (upTo 1).length < 2 ∧
      (0x81#8 : Byte) ≠ 0x86#8 ∧ (0x81#8 : Byte) ≠ 0x83#8 ∧ (0x81#8 : Byte) ≠ 0xBF#8 := by decide

theorem test_witness_PdInitWritesInitOrUnknown : 17 ≤ (upTo 17).length ∧ (upTo 16).length < 17 := by decide

theorem test_witness_PdMsgWritesMessageOrUnknown : 2 ≤ (upTo 2).length ∧ (upTo 1).length < 2 := by decide

theorem test_witness_PdUnknownWritesNoField :
    ∃ i j : Instr, (∃ cmd, i = .pdUnknownAbsent cmd) ∧ ∃ cmd region, j = .pdUnknownOther cmd region :=
  ⟨.pdUnknownAbsent 0x86#8, .pdUnknownOther 0x81#8 (upTo 3), ⟨_, rfl⟩, ⟨_, _, rfl⟩⟩

theorem test_witness_DecIsFrameStageThenSelectedRow :
    ∃ f, fdec rawVD4 = some f ∧ f.cmd = 0x83#8 ∧ f.region.isSome = true :=
  ⟨⟨0x12345678#32, 0x83#8, 8#16, some [0x55#8, 0x32#8, 0x46#8, 0x5F#8, 0x56#8, 0x32#8, 0x90#8, 0x00#8]⟩, by decide,
    by decide, by decide⟩

theorem test_witness_RoundTripThroughLoopback :
    (1 ≤ (upTo 1).length ∧ (upTo 1).length ≤ 57) ∧ 1 ≤ (upTo 57).length ∧ (upTo 57).length ≤ 57 := by decide

theorem test_witness_UnstrippedReportDecodesShifted : (upTo 57).length ≤ 57 ∧ ([] : Bytes).length ≤ 57 := by decide

theorem test_witness_OnlyTwoFaults :
    (after (.enc 1#32 0x83#8 (upTo 58))).map (·.fault) = some 0b01#2 ∧
      (after (.dec (upTo 6))).map (·.fault) = some 0b10#2 ∧ (after .rst).map (·.fault) = some 0#2 ∧
      (after (.dec (upTo 7))).map (·.fault) = some 0#2 := by decide

/-- A state with an over-long ENC and a DEC waiting. -/
def busy : State :=
  { State.reset with
    pending := [.host 0b01#2 1#32 0x83#8 (upTo 58) [], .host 0b10#2 0#32 0#8 [] rawVD4] }

theorem test_witness_FaultNeverForgottenInRun :
    busy.noReset ∧ ∃ t, Host.Core.run core 2 busy = .next t := ⟨by decide, _, rfl⟩

theorem test_witness_ResultsDependOnOperandsAlone : ∃ s s' : State, s ≠ s' ∧ s.cfg = s'.cfg :=
  ⟨State.reset, busy, by decide, rfl⟩

theorem test_witness_EncAndDecAreIdempotent :
    ∃ i j : Instr, (∃ cid cmd payload, i = .enc cid cmd payload) ∧ ∃ raw, j = .dec raw :=
  ⟨.enc 1#32 0x83#8 (upTo 3), .dec rawVD4, ⟨_, _, _, rfl⟩, ⟨_, rfl⟩⟩

theorem test_witness_ResponseFrameIsProjection : 7 ≤ rawVD4.length := by decide

/-- Valid bits that promise some elements and refuse others: a report held, no response. -/
theorem test_witness_HostReadsFollowValidBits :
    (State.reset.writeTx (zeros 65)).validBits ∧ (State.reset.writeTx (zeros 65)).promises .txbuf = true ∧
      (State.reset.writeTx (zeros 65)).promises .rCid = false :=
  ⟨fun e => by cases e <;> rfl, rfl, rfl⟩

theorem test_witness_DecodeEncodeAgree : (Instr.pdInit (upTo 17)).wellFormed = true := by decide

theorem test_witness_StepRunsNextCommand :
    (∃ q rest, busy.pending = q :: rest) ∧ State.reset.pending = [] ∧
      ∃ i rest, i.wellFormed = true ∧ { busy with pending := [encode (.dec rawVD4)] }.pending = encode i :: rest :=
  ⟨⟨_, _, rfl⟩, rfl, .dec rawVD4, [], rfl, rfl⟩

/-- The map of a machine after reset is the opcode table's; and a host command needs no such premise. -/
theorem test_witness_StepRunsNextCommand_map :
    State.reset.cfg.errTable = defaultErrTable ∧ (encode .errChannelBusy).rowFormat = .err8 ∧
      (encode (.dec rawVD4)).rowFormat ≠ .err8 := by decide

theorem test_witness_DeliveredRegionIsBounded :
    deliverable State.reset.cfg (.host 0b10#2 0#32 0#8 [] rawVD4) ∧ 7 ≤ rawVD4.length ∧ (upTo 7).length ≤ 7 :=
  ⟨⟨by decide, by decide⟩, by decide, by decide⟩

theorem test_witness_EveryStepKeepsInvariant : busy.Inv ∧ ∃ t, step busy = .next t := by
  refine ⟨⟨?_, ?_, ?_, by decide⟩, _, rfl⟩
  · intro e
    cases e <;> rfl
  · intro b h
    cases h
  · simp [State.rxShape, busy, State.reset]

/-- A held nonce has 8 bytes (V-D1), so the clause of `rxShape` about it speaks of some state. -/
theorem test_witness_nonce_length :
    ((after (.dec (report cidF 0x86#8 [0x00#8, 0x11#8] initRegion 64))).bind (·.iNonce)).map List.length = some 8 := by
  decide

theorem test_witness_EveryStepKeepsFunctionalReading : busy.functionalReading ∧ ∃ t, step busy = .next t :=
  ⟨⟨.inl ⟨rfl, rfl⟩, .inl rfl, by decide⟩, _, rfl⟩

/-- The functional reading with both groups held: a report and a response. -/
theorem test_witness_FunctionalReadingGivesInvariant : ∃ s : State, s.functionalReading ∧ s.txv = true ∧ s.rxv = true := by
  refine ⟨State.writeVariant (State.writeFrame (State.reset.writeTx _) ⟨0x12345678#32, 0x83#8, 2#16, some [0x90#8, 0x00#8]⟩)
      (.message [] 0x90#8 0x00#8), ⟨.inr ⟨1#32, 0x83#8, [], _, rfl, rfl, rfl⟩, .inr
        ⟨report cidA 0x83#8 [0x00#8, 0x02#8] [0x90#8, 0x00#8] 64, ⟨0x12345678#32, 0x83#8, 2#16, some [0x90#8, 0x00#8]⟩,
          .message [] 0x90#8 0x00#8, ?_, rfl⟩, rfl⟩, rfl, rfl⟩
  decide

end Sys2Proof.Tests
end

section
/-! PROOF. The scope's bounds on the delivered buffer and on the region DEC takes from it (spec/00_scope.md R6,
spec/40_frame_codec.md R113). -/

namespace Sys2Proof.Machine

/-- A present region lies behind the header, inside the buffer (R113, R114). -/
theorem fdec_region_length_add_header_le {raw region : Bytes} {f : FrameStage} (h : fdec raw = some f)
    (hr : f.region = some region) : region.length + 7 ≤ raw.length := by
  have h7 : 7 ≤ raw.length := by
    by_contra hlt
    rw [fdec_of_lt (by omega)] at h
    cases h
  rw [fdec_of_le h7, Option.some.injEq] at h
  subst h
  obtain ⟨⟨_, hbound⟩, hslice⟩ := Option.ite_none_right_eq_some.1 hr
  cases hslice
  simp only [rxHdr] at hbound
  rw [slice_length (by omega)]
  omega

/-- `OP` = 10 runs DEC on the report port, whatever the other ports carry (R83). -/
theorem exec_decode_host_dec (cid : ChannelId) (cmd : Byte) (payload raw : Bytes) (s : State) :
    exec (decode (.host 0b10#2 cid cmd payload raw)) s = execDec raw s := rfl

/-- DEC of a buffer that has its header writes the frame stage's values and the variant of their payload. -/
theorem execDec_of_le {raw : Bytes} (h : 7 ≤ raw.length) (s : State) :
    ∃ f, fdec raw = some f ∧
      execDec raw s = .next ((s.writeFrame f).writeVariant (pdec s.cfg.errTable f.cmd f.region)) :=
  (execDec_cases raw s).resolve_right fun ⟨hlt, _⟩ => absurd h (Nat.not_le.2 hlt)

/-- `RX_MAX` leaves room for the header, and a length port of any width carries the empty payload (R6). -/
theorem deliverable_dec_of_length_le_seven (c : Config) (cid : ChannelId) (cmd : Byte) {raw : Bytes}
    (h : raw.length ≤ 7) : deliverable c (.host 0b10#2 cid cmd [] raw) :=
  ⟨h.trans c.seven_le_rxMax, Nat.two_pow_pos c.plenBits⟩

/-- Settles O15: the region is a non-empty slice behind the 7 header bytes of a buffer no longer than `RX_MAX`. -/
theorem deliveredRegionIsBounded : Obligations.DeliveredRegionIsBounded := by
  refine ⟨fun c cid cmd raw h => deliverable_dec_of_length_le_seven c cid cmd h, ?_⟩
  intro cid cmd payload raw s ⟨hmax, _⟩ h7
  obtain ⟨f, hf, hexec⟩ := execDec_of_le h7 s
  refine ⟨_, (exec_decode_host_dec cid cmd payload raw s).trans hexec, fun region hregion => ?_⟩
  have hr : f.region = some region := by simpa using hregion
  exact ⟨(fdec_region_length hf hr).2, (fdec_region_length_add_header_le hf hr).trans hmax⟩

end Sys2Proof.Machine
end

section
/-! PROOF. What the four host commands do to the state, as total functions of it, and the parts of the state each of
them leaves alone (spec/10_state.md R36, R37). -/

namespace Sys2Proof.Machine

/-- The state after ENC (spec/40_frame_codec.md R103, R104). -/
def State.afterEnc (s : State) (cid : ChannelId) (cmd : Byte) (payload : Bytes) : State :=
  match encodeReport cid cmd payload with
  | some report => s.writeTx report
  | none => s.takeFault .encOverlen

/-- The state after DEC (spec/40_frame_codec.md R111, R117). -/
def State.afterDec (s : State) (raw : Bytes) : State :=
  match decodeReport s.cfg.errTable raw with
  | some (f, v) => (s.writeFrame f).writeVariant v
  | none => s.takeFault .decShort

theorem exec_enc (cid : ChannelId) (cmd : Byte) (payload : Bytes) (s : State) :
    exec (.enc cid cmd payload) s = .next (s.afterEnc cid cmd payload) := by
  obtain ⟨report, hr, hexec⟩ | ⟨hr, hexec⟩ := execEnc_cases cid cmd payload s
  · exact hexec.trans (by simp only [State.afterEnc, hr])
  · exact hexec.trans (by simp only [State.afterEnc, hr])

theorem exec_dec (raw : Bytes) (s : State) : exec (.dec raw) s = .next (s.afterDec raw) := by
  obtain ⟨f, hf, hexec⟩ | ⟨hlt, hexec⟩ := execDec_cases raw s
  · exact hexec.trans (by simp only [State.afterDec, decodeReport_of_le hf])
  · exact hexec.trans (by simp only [State.afterDec, decodeReport_of_lt hlt])

theorem exec_rst (s : State) : exec .rst s = .next s.resetElements := rfl

/-- RST empties both groups, whatever else it clears (spec/70_reset_and_hazards.md R180). -/
theorem State.resetElements_eq_clear (s : State) :
    s.resetElements = ({ s with fault := 0#2 } : State).clearTx.clearRx := rfl

/-! ### The TX group -/

/-- The two states have one TX group. -/
def State.SameTx (s t : State) : Prop := t.txv = s.txv ∧ t.txbuf = s.txbuf

theorem State.sameTx_takeCommand (s : State) : s.SameTx s.takeCommand.2 := ⟨by simp, by simp⟩

/-- DEC writes nothing of the TX group (spec/10_state.md R36). -/
theorem State.sameTx_afterDec (s : State) (raw : Bytes) : s.SameTx (s.afterDec raw) := by
  unfold State.afterDec
  split
  · exact ⟨by simp, by simp⟩
  · exact ⟨rfl, rfl⟩

/-- ENC's TX group is a function of its operands (spec/10_state.md R37, R38). -/
theorem State.sameTx_afterEnc (s t : State) (cid : ChannelId) (cmd : Byte) (payload : Bytes) :
    (s.afterEnc cid cmd payload).SameTx (t.afterEnc cid cmd payload) := by
  unfold State.afterEnc
  split <;> exact ⟨rfl, rfl⟩

/-! ### The RX group -/

/-- `t` with the RX group and the parameters of `s`. -/
def State.withRxOf (t s : State) : State :=
  { s with txv := t.txv, txbuf := t.txbuf, fault := t.fault, pending := t.pending }

/-- The two states have one RX group and one set of parameters. -/
def State.SameRx (s t : State) : Prop := t.withRxOf s = t

theorem State.SameRx.cfg_eq {s t : State} (h : s.SameRx t) : t.cfg = s.cfg :=
  (congrArg State.cfg h).symm

/-- Equal RX groups agree on every element but those of the TX group and `FAULT`. -/
theorem State.SameRx.element_eq {s t : State} (h : s.SameRx t) {e : Element} (htxv : e ≠ .txv) (htxbuf : e ≠ .txbuf)
    (hfault : e ≠ .fault) : t.element e = s.element e := by
  have hrx : (t.withRxOf s).element e = s.element e := by
    cases e
    case txv | txbuf | fault => contradiction
    all_goals rfl
  exact (congrArg (State.element · e) h.symm).trans hrx

theorem State.sameRx_takeCommand (s : State) : s.SameRx s.takeCommand.2 := by
  unfold State.takeCommand
  split <;> rfl

/-- ENC writes nothing of the RX group (spec/10_state.md R36). -/
theorem State.sameRx_afterEnc (s : State) (cid : ChannelId) (cmd : Byte) (payload : Bytes) :
    s.SameRx (s.afterEnc cid cmd payload) := by
  unfold State.afterEnc
  split <;> rfl

/-- The two stages' results leave nothing of the RX group that stood before (spec/10_state.md R38). -/
theorem State.sameRx_writeVariant {s t : State} (h : s.cfg = t.cfg) (f : FrameStage) (v : PayloadVariant) :
    ((s.writeFrame f).writeVariant v).SameRx ((t.writeFrame f).writeVariant v) := by
  cases v <;> simp [State.SameRx, State.withRxOf, State.writeVariant, State.writeFrame, State.clearPayload, h]

theorem State.sameRx_takeFault {s t : State} (h : s.cfg = t.cfg) :
    (s.takeFault .decShort).SameRx (t.takeFault .decShort) := by
  simp [State.SameRx, State.withRxOf, State.takeFault_decShort_eq, State.clearRx, State.clearFrame,
    State.clearPayload, h]

/-- DEC's RX group is a function of the buffer and the parameters (spec/10_state.md R37, R38). -/
theorem State.sameRx_afterDec {s t : State} (h : s.cfg = t.cfg) (raw : Bytes) :
    (s.afterDec raw).SameRx (t.afterDec raw) := by
  unfold State.afterDec
  rw [← h]
  split
  · exact State.sameRx_writeVariant h _ _
  · exact State.sameRx_takeFault h

/-! ### The order of ENC and DEC, `FAULT` and the waiting commands -/

/-- ENC and DEC write different groups, and each sets a `FAULT` bit of its own, so their order does not matter
(spec/10_state.md R36). -/
theorem State.afterDec_afterEnc (s : State) (cid : ChannelId) (cmd : Byte) (payload raw : Bytes) :
    (s.afterEnc cid cmd payload).afterDec raw = (s.afterDec raw).afterEnc cid cmd payload := by
  have hcfg : (s.afterEnc cid cmd payload).cfg = s.cfg := (s.sameRx_afterEnc cid cmd payload).cfg_eq
  unfold State.afterDec
  rw [hcfg]
  unfold State.afterEnc
  cases decodeReport s.cfg.errTable raw with
  | some r =>
    obtain ⟨f, v⟩ := r
    cases v <;> cases encodeReport cid cmd payload <;> rfl
  | none =>
    cases encodeReport cid cmd payload with
    | some report => rfl
    | none =>
      simp [State.takeFault_encOverlen_eq, State.takeFault_decShort_eq, BitVec.or_assoc, BitVec.or_comm 0b01#2 0b10#2]

/-- A register keeps the bits it has when further bits are set. -/
theorem and_or_absorb {w : Nat} (x y : BitVec w) : x &&& (x ||| y) = x := by
  ext i
  simpa using Or.inl

theorem State.fault_subset_afterEnc (s : State) (cid : ChannelId) (cmd : Byte) (payload : Bytes) :
    s.fault &&& (s.afterEnc cid cmd payload).fault = s.fault := by
  unfold State.afterEnc
  split
  · simp
  · exact and_or_absorb _ _

theorem State.fault_subset_afterDec (s : State) (raw : Bytes) : s.fault &&& (s.afterDec raw).fault = s.fault := by
  unfold State.afterDec
  split
  · simp
  · exact and_or_absorb _ _

theorem State.afterEnc_pending (s : State) (cid : ChannelId) (cmd : Byte) (payload : Bytes) :
    (s.afterEnc cid cmd payload).pending = s.pending := by
  unfold State.afterEnc
  split <;> rfl

theorem State.afterDec_pending (s : State) (raw : Bytes) : (s.afterDec raw).pending = s.pending := by
  unfold State.afterDec
  split
  · simp
  · rfl

end Sys2Proof.Machine
end

section
/-! PROOF. The shape of the report ENC builds (spec/10_state.md R35 (a)) and the fit of the variant PDEC yields with the
command byte and the region it is given (R35 (b) to (f), R25). -/

namespace Sys2Proof.Machine

/-! ### The report -/

theorem encodeReport_eq_some {cid : ChannelId} {cmd : Byte} {payload report : Bytes}
    (h : encodeReport cid cmd payload = some report) :
    payload.length ≤ 57 ∧
      report = [reportId] ++ be32Bytes cid.toNat ++ [cmd] ++ be16Bytes payload.length ++ payload ++
        zeros (57 - payload.length) := by
  have hle : payload.length ≤ 57 := by
    by_contra hgt
    rw [encodeReport_of_lt (by omega)] at h
    cases h
  rw [encodeReport_of_le hle, Option.some.injEq] at h
  exact ⟨hle, h.symm⟩

/-- The bytes of the report, `TX_HDR` of them before the payload (spec/30_encoding.md R71). -/
theorem encodeReport_length {cid : ChannelId} {cmd : Byte} {payload report : Bytes}
    (h : encodeReport cid cmd payload = some report) : report.length = 65 := by
  obtain ⟨hle, rfl⟩ := encodeReport_eq_some h
  simp [be32Bytes, be16Bytes, zeros]
  omega

theorem encodeReport_getElem_zero {cid : ChannelId} {cmd : Byte} {payload report : Bytes}
    (h : encodeReport cid cmd payload = some report) (h0 : 0 < report.length) : report[0] = 0x00#8 := by
  obtain ⟨-, rfl⟩ := encodeReport_eq_some h
  rfl

/-- The report's length field holds the payload's length (spec/30_encoding.md R71). -/
theorem encodeReport_lengthField {cid : ChannelId} {cmd : Byte} {payload report : Bytes}
    (h : encodeReport cid cmd payload = some report) (h7 : 6 + 1 < report.length) :
    be16 report 6 h7 = payload.length := by
  obtain ⟨hle, rfl⟩ := encodeReport_eq_some h
  exact be16_of_bytes h7 (by omega) rfl rfl

/-- Behind the payload stand zeros (spec/30_encoding.md R71). -/
theorem encodeReport_padding {cid : ChannelId} {cmd : Byte} {payload report : Bytes}
    (h : encodeReport cid cmd payload = some report) {i : Nat} (hi : 8 + payload.length ≤ i)
    (hlt : i < report.length) : report[i] = 0x00#8 := by
  obtain ⟨-, rfl⟩ := encodeReport_eq_some h
  rw [List.getElem_append_right (by simp [be32Bytes, be16Bytes]; omega)]
  simp only [zeros, List.getElem_replicate]

/-- Every report ENC builds has the shape of R35 (a). -/
theorem State.txShape_of_encodeReport {cid : ChannelId} {cmd : Byte} {payload report : Bytes} {s : State}
    (h : encodeReport cid cmd payload = some report) (hs : s.txbuf = some report) : s.txShape := by
  intro b hb
  obtain rfl : report = b := by rwa [hs, Option.some.injEq] at hb
  refine ⟨encodeReport_length h, encodeReport_getElem_zero h _, ?_, ?_⟩
  · rw [encodeReport_lengthField h]
    exact (encodeReport_eq_some h).1
  · intro i hi hlt
    rw [encodeReport_lengthField h] at hi
    exact encodeReport_padding h hi hlt

theorem State.txShape_of_none {s : State} (h : s.txbuf = none) : s.txShape := by
  intro b hb
  rw [h] at hb
  cases hb

/-! ### The variant -/

/-- The variant fits the command byte and the region it was decoded from (spec/10_state.md R35 (d) to (f), R25). -/
def VariantFits (cmd : Byte) (region : Option Bytes) : PayloadVariant → Prop
  | .init nonce _ _ _ _ _ _ =>
    cmd = 0x86#8 ∧ (∃ r, region = some r ∧ 17 ≤ r.length) ∧ nonce.length = 8
  | .message data _ _ =>
    cmd = 0x83#8 ∧ ∃ r, region = some r ∧ 2 ≤ r.length ∧ data.length = r.length - 2
  | .error _ => cmd = 0xBF#8 ∧ ∃ r, region = some r
  | .unknown => True

theorem parseInit_fits (r : Bytes) : VariantFits 0x86#8 (some r) (parseInit r) := by
  by_cases h : 17 ≤ r.length
  · rw [parseInit_of_le h]
    exact ⟨rfl, ⟨r, rfl, h⟩, slice_length (by omega)⟩
  · rw [parseInit_of_lt (by omega)]
    trivial

theorem parseMessage_fits (r : Bytes) : VariantFits 0x83#8 (some r) (parseMessage r) := by
  by_cases h : 2 ≤ r.length
  · rw [parseMessage_of_le h]
    exact ⟨rfl, r, rfl, h, slice_length (by omega)⟩
  · rw [parseMessage_of_lt (by omega)]
    trivial

theorem parseError_fits (table : List (Byte × ErrorCode)) (r : Bytes) :
    VariantFits 0xBF#8 (some r) (parseError table r) := by
  cases r <;> exact ⟨rfl, _, rfl⟩

/-- PDEC's variant fits what PDEC was given, arm by arm of its dispatch (spec/41_payload_decoder.md R131). -/
theorem pdec_fits (table : List (Byte × ErrorCode)) (cmd : Byte) (region : Option Bytes) :
    VariantFits cmd region (pdec table cmd region) := by
  cases region with
  | none => trivial
  | some r =>
    by_cases hinit : cmd = 0x86#8
    · subst hinit; exact parseInit_fits r
    by_cases hmsg : cmd = 0x83#8
    · subst hmsg; exact parseMessage_fits r
    by_cases herr : cmd = 0xBF#8
    · subst herr; exact parseError_fits table r
    rw [pdec_other r hinit hmsg herr]
    trivial

/-- The two results of a decoded buffer: FDEC's frame and PDEC's variant of it (spec/40_frame_codec.md R117). -/
theorem decodeReport_eq_some {table : List (Byte × ErrorCode)} {raw : Bytes} {f : FrameStage} {v : PayloadVariant}
    (h : decodeReport table raw = some (f, v)) : fdec raw = some f ∧ v = pdec table f.cmd f.region := by
  obtain ⟨g, hg, hgv⟩ := Option.map_eq_some_iff.1 h
  cases hgv
  exact ⟨hg, rfl⟩

end Sys2Proof.Machine
end

section
/-! PROOF. What a step can do while only the host's own commands wait, and the invariants that speak of the two groups
apart: the valid bits and shapes (spec/10_state.md R30, R35, R25) and the functional reading (R37). -/

namespace Sys2Proof.Machine

/-- What one host command can do to the state: one case per row of the format HOSTCMD (spec/30_encoding.md R83). -/
inductive State.HostEffect (s : State) : State → Prop
  | idle : s.HostEffect s
  | enc (cid : ChannelId) (cmd : Byte) (payload : Bytes) : s.HostEffect (s.afterEnc cid cmd payload)
  | dec (raw : Bytes) : s.HostEffect (s.afterDec raw)
  | rst : s.HostEffect s.resetElements

theorem hostEffect_of_exec_decodeHost {op : BitVec 2} {cid : ChannelId} {cmd : Byte} {payload raw : Bytes}
    {s t : State} (h : exec (decodeHost op cid cmd payload raw) s = .next t) : s.HostEffect t := by
  unfold decodeHost at h
  split_ifs at h
  · cases h
    exact .idle
  · cases (exec_enc cid cmd payload s).symm.trans h
    exact .enc cid cmd payload
  · cases (exec_dec raw s).symm.trans h
    exact .dec raw
  · cases h
    exact .rst

/-- A step in which only the host's commands wait is one of their effects on the state without the command. -/
theorem hostEffect_of_step {s t : State} (hhost : s.hostOnly) (h : step s = .next t) :
    s.takeCommand.2.HostEffect t := by
  unfold step at h
  cases hp : s.pending with
  | nil =>
    rw [State.takeCommand_nil hp] at h ⊢
    cases h
    exact .idle
  | cons q rest =>
    rw [State.takeCommand_cons hp] at h ⊢
    cases q with
    | host op cid cmd payload raw => exact hostEffect_of_exec_decodeHost h
    | payload | errCode => simp [State.hostOnly, hp, isHostRequest] at hhost

theorem State.HostEffect.pending_eq {s t : State} (h : s.HostEffect t) : t.pending = s.pending := by
  cases h with
  | idle => rfl
  | enc cid cmd payload => exact s.afterEnc_pending cid cmd payload
  | dec raw => exact s.afterDec_pending raw
  | rst => rfl

theorem hostOnly_of_step {s t : State} (hhost : s.hostOnly) (h : step s = .next t) : t.hostOnly := by
  have htail : t.pending = s.pending.tail := by
    rw [(hostEffect_of_step hhost h).pending_eq, State.takeCommand_pending]
  rw [State.hostOnly, htail, List.all_eq_true]
  exact fun q hq => List.all_eq_true.1 hhost q (List.mem_of_mem_tail hq)

/-- A property `T` of the TX group and a property `R` of the RX group that hold of the empty group and of every result
of ENC and of DEC (spec/10_state.md R36, R37). -/
structure GroupInvariant (T R : State → Prop) : Prop where
  tx_congr : ∀ {s t : State}, s.SameTx t → T s → T t
  tx_empty : ∀ s : State, T s.clearTx
  tx_enc : ∀ {cid : ChannelId} {cmd : Byte} {payload report : Bytes} (s : State),
    encodeReport cid cmd payload = some report → T (s.writeTx report)
  rx_congr : ∀ {s t : State}, s.SameRx t → R s → R t
  rx_empty : ∀ s : State, R s.clearRx
  rx_dec : ∀ {raw : Bytes} {f : FrameStage} {v : PayloadVariant} (s : State),
    decodeReport s.cfg.errTable raw = some (f, v) → R ((s.writeFrame f).writeVariant v)

namespace GroupInvariant

variable {T R : State → Prop}

theorem tx_afterEnc (inv : GroupInvariant T R) (s : State) (cid : ChannelId) (cmd : Byte) (payload : Bytes) :
    T (s.afterEnc cid cmd payload) := by
  unfold State.afterEnc
  split
  · next h => exact inv.tx_enc s h
  · exact inv.tx_empty (s.raiseBit .encOverlen)

theorem rx_afterDec (inv : GroupInvariant T R) (s : State) (raw : Bytes) : R (s.afterDec raw) := by
  unfold State.afterDec
  split
  · next h => exact inv.rx_dec s h
  · exact inv.rx_empty (s.raiseBit .decShort)

theorem hostEffect_keeps (inv : GroupInvariant T R) {s t : State} (h : s.HostEffect t) (hT : T s) (hR : R s) :
    T t ∧ R t := by
  cases h with
  | idle => exact ⟨hT, hR⟩
  | enc cid cmd payload =>
    exact ⟨inv.tx_afterEnc s cid cmd payload, inv.rx_congr (s.sameRx_afterEnc cid cmd payload) hR⟩
  | dec raw => exact ⟨inv.tx_congr (s.sameTx_afterDec raw) hT, inv.rx_afterDec s raw⟩
  | rst =>
    rw [s.resetElements_eq_clear]
    exact ⟨inv.tx_congr (s := s.clearTx) ⟨rfl, rfl⟩ (inv.tx_empty s), inv.rx_empty _⟩

/-- Every step keeps both properties while only the host's own commands wait. -/
theorem step_keeps (inv : GroupInvariant T R) {s t : State} (hT : T s) (hR : R s) (hhost : s.hostOnly)
    (h : step s = .next t) : T t ∧ R t ∧ t.hostOnly := by
  obtain ⟨hT', hR'⟩ := inv.hostEffect_keeps (hostEffect_of_step hhost h)
    (inv.tx_congr s.sameTx_takeCommand hT) (inv.rx_congr s.sameRx_takeCommand hR)
  exact ⟨hT', hR', hostOnly_of_step hhost h⟩

end GroupInvariant

/-! ### The functional reading -/

/-- The TX group is empty or `enc` of some operands: the first part of `State.functionalReading`. -/
def State.TxReading (s : State) : Prop :=
  (s.txv = false ∧ s.txbuf = none) ∨
    ∃ cid cmd payload report, encodeReport cid cmd payload = some report ∧ s.txv = true ∧ s.txbuf = some report

/-- The RX group is empty or `dec` of some buffer: the second part of `State.functionalReading`. -/
def State.RxReading (s : State) : Prop :=
  s = s.clearRx ∨
    ∃ raw f v, decodeReport s.cfg.errTable raw = some (f, v) ∧ s = (s.writeFrame f).writeVariant v

theorem State.functionalReading_iff (s : State) :
    s.functionalReading ↔ s.TxReading ∧ s.RxReading ∧ s.hostOnly := Iff.rfl

theorem State.TxReading.congr {s t : State} (h : s.SameTx t) (hs : s.TxReading) : t.TxReading := by
  obtain ⟨htxv, htxbuf⟩ := h
  unfold State.TxReading
  rwa [htxv, htxbuf]

theorem State.RxReading.congr {s t : State} (h : s.SameRx t) (hs : s.RxReading) : t.RxReading := by
  obtain hempty | ⟨raw, f, v, hdec, hheld⟩ := hs
  · left
    calc t = t.withRxOf s := h.symm
      _ = (t.withRxOf s).clearRx := congrArg t.withRxOf hempty
      _ = t.clearRx := by rw [h]
  · right
    refine ⟨raw, f, v, by rwa [h.cfg_eq], ?_⟩
    calc t = t.withRxOf s := h.symm
      _ = t.withRxOf ((s.writeFrame f).writeVariant v) := congrArg t.withRxOf hheld
      _ = ((t.withRxOf s).writeFrame f).writeVariant v := by cases v <;> rfl
      _ = (t.writeFrame f).writeVariant v := by rw [h]

theorem State.rxReading_of_decodeReport {raw : Bytes} {f : FrameStage} {v : PayloadVariant} (s : State)
    (h : decodeReport s.cfg.errTable raw = some (f, v)) : ((s.writeFrame f).writeVariant v).RxReading :=
  .inr ⟨raw, f, v, by simpa using h, by cases v <;> rfl⟩

theorem groupInvariant_reading : GroupInvariant State.TxReading State.RxReading where
  tx_congr := State.TxReading.congr
  tx_empty _ := .inl ⟨rfl, rfl⟩
  tx_enc _ h := .inr ⟨_, _, _, _, h, rfl, rfl⟩
  rx_congr := State.RxReading.congr
  rx_empty _ := .inl rfl
  rx_dec := State.rxReading_of_decodeReport

/-- Whatever holds of the empty groups and of the results of ENC and DEC follows from the functional reading. -/
theorem GroupInvariant.of_functionalReading {T R : State → Prop} (inv : GroupInvariant T R) {s : State}
    (h : s.functionalReading) : T s ∧ R s := by
  obtain ⟨htx, hrx, -⟩ := s.functionalReading_iff.1 h
  constructor
  · obtain htx | ⟨cid, cmd, payload, report, henc, htx⟩ := htx
    · exact inv.tx_congr (s := s.clearTx) htx (inv.tx_empty s)
    · exact inv.tx_congr (s := s.writeTx report) htx (inv.tx_enc s henc)
  · obtain hrx | ⟨raw, f, v, hdec, hrx⟩ := hrx
    · rw [hrx]
      exact inv.rx_empty s
    · rw [hrx]
      exact inv.rx_dec s hdec

/-! ### Valid bits and shapes -/

/-- The clauses of `State.Inv` about the TX group (spec/10_state.md R30, R35 (a)). -/
def State.TxInv (s : State) : Prop := s.txbuf.isSome = s.txv ∧ s.txShape

/-- The clauses of `State.Inv` about the other elements (spec/10_state.md R30, R35 (b) to (f), R25). -/
def State.RxInv (s : State) : Prop :=
  (∀ e : Element, e ≠ .txbuf → (s.element e).isSome = s.promises e) ∧ s.rxShape

theorem State.validBits_iff (s : State) :
    s.validBits ↔
      s.txbuf.isSome = s.txv ∧ ∀ e : Element, e ≠ .txbuf → (s.element e).isSome = s.promises e := by
  have htxbuf : (s.element .txbuf).isSome = s.txbuf.isSome := Option.isSome_map
  constructor
  · intro h
    exact ⟨htxbuf.symm.trans (h .txbuf), fun e _ => h e⟩
  · rintro ⟨htx, hrest⟩ e
    by_cases he : e = .txbuf
    · subst he
      exact htxbuf.trans htx
    · exact hrest e he

theorem State.inv_iff (s : State) : s.Inv ↔ s.TxInv ∧ s.RxInv ∧ s.hostOnly := by
  rw [State.Inv, State.validBits_iff, State.TxInv, State.RxInv]
  tauto

theorem State.TxInv.congr {s t : State} (h : s.SameTx t) (hs : s.TxInv) : t.TxInv := by
  obtain ⟨htxv, htxbuf⟩ := h
  unfold State.TxInv State.txShape
  rwa [htxv, htxbuf]

theorem State.txInv_clearTx (s : State) : s.clearTx.TxInv := ⟨rfl, State.txShape_of_none rfl⟩

theorem State.txInv_writeTx {cid : ChannelId} {cmd : Byte} {payload report : Bytes} (s : State)
    (h : encodeReport cid cmd payload = some report) : (s.writeTx report).TxInv :=
  ⟨rfl, State.txShape_of_encodeReport h rfl⟩

theorem State.RxInv.congr {s t : State} (h : s.SameRx t) (hs : s.RxInv) : t.RxInv := by
  obtain ⟨hbits, hshape⟩ := hs
  rw [← h]
  refine ⟨fun e he => ?_, hshape⟩
  cases e
  case txbuf => contradiction
  case txv | fault => rfl
  all_goals exact hbits _ he

theorem State.rxInv_clearRx (s : State) : s.clearRx.RxInv := by
  constructor
  · intro e he
    cases e
    case txbuf => contradiction
    all_goals rfl
  · simp [State.rxShape]

/-- R30 after DEC: the elements of the chosen variant hold values and the other variants' do not
(spec/41_payload_decoder.md R138). -/
theorem State.element_isSome_writeVariant (s : State) (f : FrameStage) (v : PayloadVariant) (e : Element)
    (he : e ≠ .txbuf) :
    (((s.writeFrame f).writeVariant v).element e).isSome = ((s.writeFrame f).writeVariant v).promises e := by
  cases e
  case txbuf => contradiction
  case rRegion => simp [State.element, State.promises]
  all_goals cases v <;> rfl

/-- R35 (b) to (f) after DEC: the variant fits the frame, whose region has the declared length. -/
theorem State.rxShape_of_fits (s : State) {f : FrameStage} {v : PayloadVariant} (hfit : VariantFits f.cmd f.region v)
    (hlen : ∀ r, f.region = some r → r.length = f.dlen.toNat ∧ 1 ≤ r.length)
    (habsent : f.region = none → v = .unknown) : ((s.writeFrame f).writeVariant v).rxShape := by
  refine ⟨fun hrv => ?_, fun hrv => ?_, ?_⟩
  · obtain ⟨r, hr⟩ : ∃ r, f.region = some r := by simpa [Option.isSome_iff_exists] using hrv
    obtain ⟨hd, hpos⟩ := hlen r hr
    exact ⟨f.dlen, r, by simp, by simpa using hr, hd ▸ hpos, hd⟩
  · rw [State.writeVariant_rVar, habsent (by simpa using hrv)]
    rfl
  cases v with
  | init nonce cid proto major minor build caps =>
    obtain ⟨hcmd, ⟨r, hr, h17⟩, hnonce⟩ := hfit
    obtain ⟨hd, -⟩ := hlen r hr
    refine ⟨fun _ => ⟨by simp [hcmd], by simp [hr], f.dlen, by simp, hd ▸ h17⟩, nofun, nofun, fun n hn => ?_⟩
    cases hn
    exact hnonce
  | message data sw1 sw2 =>
    obtain ⟨hcmd, r, hr, h2, hdata⟩ := hfit
    obtain ⟨hd, -⟩ := hlen r hr
    exact ⟨nofun, fun _ => ⟨by simp [hcmd], by simp [hr], f.dlen, data, by simp, rfl, hd ▸ h2, hd ▸ hdata⟩,
      nofun, nofun⟩
  | error code =>
    obtain ⟨hcmd, r, hr⟩ := hfit
    exact ⟨nofun, nofun, fun _ => ⟨by simp [hcmd], by simp [hr]⟩, nofun⟩
  | unknown => exact ⟨nofun, nofun, nofun, nofun⟩

theorem State.rxInv_of_decodeReport {raw : Bytes} {f : FrameStage} {v : PayloadVariant} (s : State)
    (h : decodeReport s.cfg.errTable raw = some (f, v)) : ((s.writeFrame f).writeVariant v).RxInv := by
  obtain ⟨hf, rfl⟩ := decodeReport_eq_some h
  refine ⟨s.element_isSome_writeVariant f _, s.rxShape_of_fits (pdec_fits _ _ _) (fun r => fdec_region_length hf)
    fun habsent => ?_⟩
  rw [habsent, pdec_absent]

theorem groupInvariant_inv : GroupInvariant State.TxInv State.RxInv where
  tx_congr := State.TxInv.congr
  tx_empty := State.txInv_clearTx
  tx_enc := State.txInv_writeTx
  rx_congr := State.RxInv.congr
  rx_empty := State.rxInv_clearRx
  rx_dec := State.rxInv_of_decodeReport

end Sys2Proof.Machine
end

section
/-! PROOF. The statements of spec/10_state.md. -/

namespace Sys2Proof.Machine

/-! ### The invariants -/

/-- Settles O45: at reset both groups are empty and no command waits. -/
theorem functionalReadingAtReset : Obligations.FunctionalReadingAtReset :=
  ⟨.inl ⟨rfl, rfl⟩, .inl rfl, rfl⟩

/-- Settles O46: the functional reading speaks of the two groups apart. -/
theorem everyStepKeepsFunctionalReading : Obligations.EveryStepKeepsFunctionalReading := by
  intro s t hreading h
  obtain ⟨htx, hrx, hhost⟩ := s.functionalReading_iff.1 hreading
  exact t.functionalReading_iff.2 (groupInvariant_reading.step_keeps htx hrx hhost h)

/-- Settles O47: the clauses of `State.Inv` hold of the empty groups and of the results of ENC and DEC. -/
theorem functionalReadingGivesInvariant : Obligations.FunctionalReadingGivesInvariant := by
  intro s h
  obtain ⟨htx, hrx⟩ := groupInvariant_inv.of_functionalReading h
  obtain ⟨-, -, hhost⟩ := s.functionalReading_iff.1 h
  exact s.inv_iff.2 ⟨htx, hrx, hhost⟩

/-- Settles O43: reset meets the functional reading. -/
theorem invariantAtReset : Obligations.InvariantAtReset :=
  functionalReadingGivesInvariant State.reset functionalReadingAtReset

/-- Settles O44: the clauses of `State.Inv` speak of the two groups apart. -/
theorem everyStepKeepsInvariant : Obligations.EveryStepKeepsInvariant := by
  intro s t hinv h
  obtain ⟨htx, hrx, hhost⟩ := s.inv_iff.1 hinv
  exact t.inv_iff.2 (groupInvariant_inv.step_keeps htx hrx hhost h)

/-! ### Independence and purity -/

/-- Settles O32: by what ENC and DEC leave alone. -/
theorem encAndDecAreIndependent : Obligations.EncAndDecAreIndependent := by
  intro cid cmd payload raw s
  refine ⟨s.afterEnc cid cmd payload, s.afterDec raw, (s.afterEnc cid cmd payload).afterDec raw,
    exec_enc cid cmd payload s, exec_dec raw s, exec_dec raw _, ?_, ?_, s.sameTx_afterDec raw,
    s.fault_subset_afterEnc cid cmd payload, s.fault_subset_afterDec raw⟩
  · rw [exec_enc, State.afterDec_afterEnc]
  · exact fun e => (s.sameRx_afterEnc cid cmd payload).element_eq

/-- Settles O33: the groups DEC and ENC write are functions of their operands. -/
theorem resultsDependOnOperandsAlone : Obligations.ResultsDependOnOperandsAlone := by
  intro s s' hcfg
  constructor
  · intro raw
    exact ⟨_, _, exec_dec raw s, exec_dec raw s', fun e => (State.sameRx_afterDec hcfg.symm raw).element_eq⟩
  · intro cid cmd payload
    exact ⟨_, _, exec_enc cid cmd payload s, exec_enc cid cmd payload s', s'.sameTx_afterEnc s cid cmd payload⟩

/-! ### The ResponseFrame, reset values and host reads -/

/-- What the two stages wrote is read off as the projection (channel id, variant) (spec/10_state.md R34). -/
theorem responseFrame_writeVariant (s : State) (f : FrameStage) (v : PayloadVariant) :
    responseFrame ((s.writeFrame f).writeVariant v) = some ⟨f.cid, v⟩ := by
  simp only [responseFrame, State.writeVariant_rCid, State.writeFrame_rCid, State.heldVariant_writeVariant]

theorem responseOf_of_fdec {table : List (Byte × ErrorCode)} {raw : Bytes} {f : FrameStage} (h : fdec raw = some f) :
    responseOf table raw = some ⟨f.cid, pdec table f.cmd f.region⟩ := by
  simp only [responseOf, decodeReport_of_le h, Option.map_some]

/-- Settles O35: DEC writes the frame's channel id and PDEC's variant, which the projection reads back. -/
theorem responseFrameIsProjection : Obligations.ResponseFrameIsProjection := by
  intro raw s h7
  obtain ⟨f, hf, hexec⟩ := execDec_of_le h7 s
  exact ⟨_, _, hexec, responseOf_of_fdec hf, responseFrame_writeVariant s f _⟩

/-- Settles O1: both are the result of RST on some state. -/
theorem resetLeavesNoValue : Obligations.ResetLeavesNoValue := by
  intro t ht
  obtain ⟨s, rfl⟩ : ∃ s : State, t = s.resetElements := by
    obtain rfl | ⟨s, h⟩ := ht
    · exact ⟨State.reset, rfl⟩
    · cases (exec_rst s).symm.trans h
      exact ⟨s, rfl⟩
  simp

theorem hostRead_of_some {e : Element} {s : State} {v : ElementValue} (h : s.element e = some v) :
    hostRead e s = .ok v := by
  simp only [hostRead, h]

theorem hostRead_of_none {e : Element} {s : State} (h : s.element e = none) : hostRead e s = .error (.noValue e) := by
  simp only [hostRead, h]

/-- Settles O36: where the valid bits promise an element it holds a value, and nowhere else. -/
theorem hostReadsFollowValidBits : Obligations.HostReadsFollowValidBits := by
  intro s e hvalid
  rw [← hvalid e]
  constructor
  · intro hsome
    obtain ⟨v, hv⟩ := Option.isSome_iff_exists.1 hsome
    exact ⟨v, hv, hostRead_of_some hv⟩
  · intro hnone
    exact hostRead_of_none (by simpa using hnone)

end Sys2Proof.Machine
end

section
/-! PROOF. The statements of spec/20_memory.md: issuing ENC or DEC once more leaves the same state (R58). -/

namespace Sys2Proof.Machine

/-- The two stages write different elements, so their order does not matter. -/
theorem State.writeFrame_writeVariant (s : State) (f : FrameStage) (v : PayloadVariant) :
    (s.writeVariant v).writeFrame f = (s.writeFrame f).writeVariant v := by
  cases v <;> rfl

theorem State.writeFrame_writeFrame (s : State) (f g : FrameStage) :
    (s.writeFrame f).writeFrame g = s.writeFrame g := rfl

/-- A fault's bit is sticky, and the group it empties is empty already (spec/60_exceptions.md R165). -/
theorem State.takeFault_takeFault (s : State) (c : FaultCode) : (s.takeFault c).takeFault c = s.takeFault c := by
  have hbit (b : BitVec 2) : s.fault ||| b ||| b = s.fault ||| b := by rw [BitVec.or_assoc, BitVec.or_self]
  cases c with
  | encOverlen => simp only [State.takeFault_encOverlen_eq, hbit]
  | decShort => simp only [State.takeFault_decShort_eq, State.clearRx, State.clearFrame, State.clearPayload, hbit]

/-- Whether ENC accepts is a matter of its operands, so the second run takes the branch of the first. -/
theorem State.afterEnc_afterEnc (s : State) (cid : ChannelId) (cmd : Byte) (payload : Bytes) :
    (s.afterEnc cid cmd payload).afterEnc cid cmd payload = s.afterEnc cid cmd payload := by
  unfold State.afterEnc
  cases encodeReport cid cmd payload with
  | some report => rfl
  | none => exact s.takeFault_takeFault .encOverlen

theorem State.afterDec_cfg (s : State) (raw : Bytes) : (s.afterDec raw).cfg = s.cfg := by
  unfold State.afterDec
  split
  · simp
  · rfl

/-- DEC keeps the parameters, so the second run decodes the buffer under the map of the first. -/
theorem State.afterDec_afterDec (s : State) (raw : Bytes) : (s.afterDec raw).afterDec raw = s.afterDec raw := by
  have hcfg := s.afterDec_cfg raw
  unfold State.afterDec at hcfg ⊢
  rw [hcfg]
  cases decodeReport s.cfg.errTable raw with
  | some r => simp only [State.writeFrame_writeVariant, State.writeFrame_writeFrame, State.writeVariant_writeVariant]
  | none => exact s.takeFault_takeFault .decShort

/-- Settles O34: each branch of ENC and of DEC overwrites what it wrote before. -/
theorem encAndDecAreIdempotent : Obligations.EncAndDecAreIdempotent := by
  rintro i s (⟨cid, cmd, payload, rfl⟩ | ⟨raw, rfl⟩)
  · exact ⟨_, exec_enc cid cmd payload s, by rw [exec_enc, State.afterEnc_afterEnc]⟩
  · exact ⟨_, exec_dec raw s, by rw [exec_dec, State.afterDec_afterDec]⟩

end Sys2Proof.Machine
end

section
/-! PROOF. The statements of spec/30_encoding.md about the decoder and the encoder: the selecting fields, the opcode
table's rows and their priorities (R77, R78, R79, R83, R84). -/

namespace Sys2Proof

open Sys2Proof.Machine

/-! ### The command map and the error-code map -/

theorem decodePayload_some (cmd : Byte) (region : Bytes) :
    decodePayload cmd (some region) =
      if cmd = cmdInit ∧ initMin ≤ region.length then .pdInit region
      else if cmd = cmdMsg ∧ msgMin ≤ region.length then .pdMsg region
      else if cmd = cmdError then .pdError region
      else .pdUnknownOther cmd region := rfl

theorem wellFormed_pdUnknownOther_iff (cmd : Byte) (region : Bytes) :
    (Instr.pdUnknownOther cmd region).wellFormed = true ↔
      ¬ (cmd = cmdInit ∧ initMin ≤ region.length) ∧ ¬ (cmd = cmdMsg ∧ msgMin ≤ region.length) ∧ cmd ≠ cmdError := by
  simp [Instr.wellFormed, and_assoc, imp_iff_not_or]

theorem wellFormed_errUnknown_iff (code : Byte) :
    (Instr.errUnknown code).wellFormed = true ↔ defaultErrTable.lookup code = none :=
  Option.isNone_iff_eq_none

theorem errMap_of_lookup_none {table : List (Byte × ErrorCode)} {code : Byte} (h : table.lookup code = none) :
    errMap table code = .unknown := by
  rw [errMap, h, Option.getD_none]

/-- A code byte that the map lists means what one of the map's entries says (spec/30_encoding.md R79). -/
theorem mem_of_lookup_ne_none {table : List (Byte × ErrorCode)} {code : Byte} (h : table.lookup code ≠ none) :
    (code, errMap table code) ∈ table := by
  obtain ⟨c, hc⟩ := Option.ne_none_iff_exists'.1 h
  obtain ⟨before, after, htable, -⟩ := List.lookup_eq_some_iff.1 hc
  rw [errMap, hc, htable]
  exact List.mem_append_right before List.mem_cons_self

/-! ### Decode and encode -/

/-- Settles O37: row by row; a row's `when` condition is what its arm of the decoder tests. -/
theorem decodeEncodeAgree : Obligations.DecodeEncodeAgree := by
  intro i hwf
  cases i
  case pdInit region => exact if_pos ⟨rfl, of_decide_eq_true hwf⟩
  case pdMsg region => exact if_pos ⟨rfl, of_decide_eq_true hwf⟩
  case pdUnknownOther cmd region =>
    obtain ⟨hinit, hmsg, herr⟩ := (wellFormed_pdUnknownOther_iff cmd region).1 hwf
    exact (if_neg hinit).trans ((if_neg hmsg).trans (if_neg herr))
  case errUnknown code =>
    exact congrArg (errInstr code) (errMap_of_lookup_none ((wellFormed_errUnknown_iff code).1 hwf))
  all_goals rfl

/-- The instruction is well formed, and the request is its encoding but for ports that its command does not read. -/
def Request.Selects (q : Request) (i : Instr) : Prop := i.wellFormed = true ∧ encode i = q.canonical

theorem selects_decodeHost (op : BitVec 2) (cid : ChannelId) (cmd : Byte) (payload raw : Bytes) :
    (Request.host op cid cmd payload raw).Selects (decodeHost op cid cmd payload raw) := by
  have hop : op = 0b00#2 ∨ op = 0b01#2 ∨ op = 0b10#2 ∨ op = 0b11#2 := by
    revert op
    decide
  obtain rfl | rfl | rfl | rfl := hop <;> exact ⟨rfl, rfl⟩

theorem selects_decodePayload (cmd : Byte) (region : Option Bytes) :
    (Request.payload cmd region).Selects (decodePayload cmd region) := by
  cases region with
  | none => exact ⟨rfl, rfl⟩
  | some s =>
    rw [decodePayload_some]
    split_ifs with hinit hmsg herr
    · obtain ⟨rfl, hlen⟩ := hinit
      exact ⟨decide_eq_true hlen, rfl⟩
    · obtain ⟨rfl, hlen⟩ := hmsg
      exact ⟨decide_eq_true hlen, rfl⟩
    · subst herr
      exact ⟨rfl, rfl⟩
    · exact ⟨(wellFormed_pdUnknownOther_iff cmd s).2 ⟨hinit, hmsg, herr⟩, rfl⟩

/-- The ten listed rows: the byte R79 gives for a code is the one the code's row encodes to. -/
theorem selects_errInstr_of_mem :
    ∀ p ∈ defaultErrTable, (errInstr p.1 p.2).wellFormed = true ∧ encode (errInstr p.1 p.2) = .errCode p.1 := by
  decide

theorem selects_errInstr (code : Byte) :
    (Request.errCode code).Selects (errInstr code (errMap defaultErrTable code)) := by
  by_cases h : defaultErrTable.lookup code = none
  · rw [errMap_of_lookup_none h]
    exact ⟨(wellFormed_errUnknown_iff code).2 h, rfl⟩
  · exact selects_errInstr_of_mem _ (mem_of_lookup_ne_none h)

/-- Settles O38: format by format. -/
theorem encodeDecodeCanonical : Obligations.EncodeDecodeCanonical := by
  intro q
  cases q with
  | host op cid cmd payload raw => exact selects_decodeHost op cid cmd payload raw
  | payload cmd region => exact selects_decodePayload cmd region
  | errCode code => exact selects_errInstr code

/-- Settles O40: each of the seven words is the encoding of the well-formed operation it stands for. -/
theorem wordsDecodeAsTabled : Obligations.WordsDecodeAsTabled :=
  ⟨decodeEncodeAgree (.enc _ _ _) rfl, decodeEncodeAgree (.dec _) rfl, decodeEncodeAgree .rst rfl,
    decodeEncodeAgree (.pdMsg _) rfl, decodeEncodeAgree (.pdUnknownAbsent _) rfl,
    decodeEncodeAgree .errChannelRequiresLock rfl, decodeEncodeAgree (.errUnknown _) rfl⟩

/-! ### What a row's hit says -/

theorem hits_iff (r : OpcodeRow) (q : Request) :
    r.hits q = true ↔ r.format = q.rowFormat ∧ q.selector &&& r.mask = r.pattern ∧ r.need.holdsOf q = true := by
  simp [OpcodeRow.hits, and_assoc]

theorem holdsOf_host (need : RegionNeed) (op : BitVec 2) (cid : ChannelId) (cmd : Byte) (payload raw : Bytes) :
    need.holdsOf (.host op cid cmd payload raw) = (need == .any) := by
  cases need <;> rfl

/-- No row looks at an operand port of a host command. -/
theorem hits_canonical (r : OpcodeRow) (q : Request) : r.hits q.canonical = r.hits q := by
  cases q with
  | host op cid cmd payload raw =>
    simp only [Request.canonical]
    split_ifs <;> simp only [OpcodeRow.hits, Request.rowFormat, Request.selector, holdsOf_host]
  | payload | errCode => rfl

/-- The encoding of every well-formed instruction hits the row of its mnemonic. -/
theorem hits_own_row : ∀ i : Instr, Laws.Selects.Statement i
  | .idle => Laws.Selects.idle
  | .enc cid cmd payload => Laws.Selects.enc cid cmd payload
  | .dec raw => Laws.Selects.dec raw
  | .rst => Laws.Selects.rst
  | .pdUnknownAbsent cmd => Laws.Selects.pdUnknownAbsent cmd
  | .pdInit region => Laws.Selects.pdInit region
  | .pdMsg region => Laws.Selects.pdMsg region
  | .pdError region => Laws.Selects.pdError region
  | .pdUnknownOther cmd region => Laws.Selects.pdUnknownOther cmd region
  | .errNone => Laws.Selects.errNone
  | .errInvalidCommand => Laws.Selects.errInvalidCommand
  | .errInvalidParameter => Laws.Selects.errInvalidParameter
  | .errInvalidMessageLength => Laws.Selects.errInvalidMessageLength
  | .errInvalidMessageSequencing => Laws.Selects.errInvalidMessageSequencing
  | .errMessageTimeout => Laws.Selects.errMessageTimeout
  | .errChannelBusy => Laws.Selects.errChannelBusy
  | .errChannelRequiresLock => Laws.Selects.errChannelRequiresLock
  | .errSyncCommandFailed => Laws.Selects.errSyncCommandFailed
  | .errUnspecified => Laws.Selects.errUnspecified
  | .errUnknown code => Laws.Selects.errUnknown code

/-! ### Priorities -/

/-- Rows of one format and one priority differ in their pattern under one mask. -/
theorem mask_eq_of_priority_eq :
    ∀ r ∈ opcodeTable, ∀ r' ∈ opcodeTable, r.format = r'.format → r.priority = r'.priority →
      r.mask = r'.mask ∧ (r.pattern = r'.pattern → r = r') := by
  decide

/-- No request hits two rows of one priority (spec/30_encoding.md R84). -/
theorem eq_of_hits_of_priority_eq {r r' : OpcodeRow} {q : Request} (hr : r ∈ opcodeTable) (hr' : r' ∈ opcodeTable)
    (hhits : r.hits q = true) (hhits' : r'.hits q = true) (hprio : r.priority = r'.priority) : r = r' := by
  obtain ⟨hformat, hpattern, -⟩ := (hits_iff r q).1 hhits
  obtain ⟨hformat', hpattern', -⟩ := (hits_iff r' q).1 hhits'
  obtain ⟨hmask, heq⟩ := mask_eq_of_priority_eq r hr r' hr' (hformat.trans hformat'.symm) hprio
  exact heq (by rw [← hpattern, ← hpattern', hmask])

/-- The command map's rows (spec/30_encoding.md R77, R78): the absent region, the three exact command bytes, and the
catch-all. -/
theorem payload_row_cases :
    ∀ r ∈ opcodeTable, r.format = .cmd8 →
      r.need = .absent ∨
        (r.priority = 1 ∧ r.mask = 0xFF#8 ∧
          (r.pattern = cmdInit ∧ r.need = .atLeast initMin ∨ r.pattern = cmdMsg ∧ r.need = .atLeast msgMin ∨
            r.pattern = cmdError)) ∨
          r.priority = 2 := by
  decide

/-- A row hit by a present region is an exact command byte's or the catch-all. -/
theorem one_le_priority_of_hits_payload_some {r : OpcodeRow} (hr : r ∈ opcodeTable) {cmd : Byte} {s : Bytes}
    (hhits : r.hits (.payload cmd (some s)) = true) : 1 ≤ r.priority := by
  obtain ⟨hformat, -, hneed⟩ := (hits_iff _ _).1 hhits
  obtain habsent | ⟨hprio, -⟩ | hprio := payload_row_cases r hr hformat
  · simp [habsent, RegionNeed.holdsOf] at hneed
  · exact hprio.ge
  · omega

/-- A present region that passes none of the three tests hits the catch-all alone. -/
theorem two_le_priority_of_hits_pdUnknownOther {r : OpcodeRow} (hr : r ∈ opcodeTable) {cmd : Byte} {s : Bytes}
    (hwf : (Instr.pdUnknownOther cmd s).wellFormed = true) (hhits : r.hits (.payload cmd (some s)) = true) :
    2 ≤ r.priority := by
  obtain ⟨hinit, hmsg, herr⟩ := (wellFormed_pdUnknownOther_iff cmd s).1 hwf
  obtain ⟨hformat, hpattern, hneed⟩ := (hits_iff _ _).1 hhits
  obtain habsent | ⟨-, hmask, hrow⟩ | hprio := payload_row_cases r hr hformat
  · simp [habsent, RegionNeed.holdsOf] at hneed
  · have hcmd : cmd = r.pattern := by rw [← hpattern, hmask]; exact BitVec.and_allOnes.symm
    rw [← hcmd] at hrow
    obtain ⟨hcmd, hlen⟩ | ⟨hcmd, hlen⟩ | hcmd := hrow
    · exact absurd ⟨hcmd, by simpa [hlen, RegionNeed.holdsOf] using hneed⟩ hinit
    · exact absurd ⟨hcmd, by simpa [hlen, RegionNeed.holdsOf] using hneed⟩ hmsg
    · exact absurd hcmd herr
  · exact hprio.ge

/-- An error-code row is the catch-all or the row of one listed byte (spec/30_encoding.md R79). -/
theorem err_row_cases :
    ∀ r ∈ opcodeTable, r.format = .err8 →
      (r.mask = 0xFF#8 ∧ defaultErrTable.lookup r.pattern ≠ none) ∨ r.priority = 1 := by
  decide

/-- A code byte that R79 does not list hits the catch-all alone. -/
theorem one_le_priority_of_hits_errUnknown {r : OpcodeRow} (hr : r ∈ opcodeTable) {code : Byte}
    (hwf : (Instr.errUnknown code).wellFormed = true) (hhits : r.hits (.errCode code) = true) : 1 ≤ r.priority := by
  obtain ⟨hformat, hpattern, -⟩ := (hits_iff _ _).1 hhits
  obtain ⟨hmask, hlisted⟩ | hprio := err_row_cases r hr hformat
  · have hcode : code = r.pattern := by rw [← hpattern, hmask]; exact BitVec.and_allOnes.symm
    exact absurd (hcode ▸ (wellFormed_errUnknown_iff code).1 hwf) hlisted
  · exact hprio.ge

/-- The priority of the row of an instruction's mnemonic. -/
def Instr.rowPriority : Instr → Nat
  | .pdInit _ | .pdMsg _ | .pdError _ | .errUnknown _ => 1
  | .pdUnknownOther _ _ => 2
  | _ => 0

theorem priority_eq_rowPriority (i : Instr) :
    ∀ r ∈ opcodeTable, r.mnemonic = i.mnemonic → r.priority = i.rowPriority := by
  cases i <;> simp only [Instr.mnemonic, Instr.rowPriority] <;> decide

/-- No row that a well-formed instruction's encoding hits has a smaller priority than the instruction's own. -/
theorem rowPriority_le_of_hits {i : Instr} (hwf : i.wellFormed = true) {r : OpcodeRow} (hr : r ∈ opcodeTable)
    (hhits : r.hits (encode i) = true) : i.rowPriority ≤ r.priority := by
  cases i
  case pdInit | pdMsg | pdError => exact one_le_priority_of_hits_payload_some hr hhits
  case pdUnknownOther => exact two_le_priority_of_hits_pdUnknownOther hr hwf hhits
  case errUnknown => exact one_le_priority_of_hits_errUnknown hr hwf hhits
  all_goals exact Nat.zero_le _

/-- Settles O39: the decoded instruction encodes to the request, so the request hits its row; that row has the least
priority, and no two rows hit have one priority. -/
theorem decoderSelectsLeastPriorityRow : Obligations.DecoderSelectsLeastPriorityRow := by
  refine ⟨rfl, fun q => ?_⟩
  obtain ⟨hwf, hencode⟩ := encodeDecodeCanonical q
  have hhits_iff (r : OpcodeRow) : r.hits (encode (decode q)) = r.hits q := by rw [hencode, hits_canonical]
  obtain ⟨r, hr, hmnemonic, hhits⟩ := hits_own_row (decode q) hwf
  rw [hhits_iff] at hhits
  refine ⟨r, hr, hmnemonic, hhits, fun r' hr' hhits' => ?_⟩
  have hle : r.priority ≤ r'.priority := by
    rw [priority_eq_rowPriority _ r hr hmnemonic]
    exact rowPriority_le_of_hits hwf hr' ((hhits_iff r').trans hhits')
  obtain heq | hlt := hle.eq_or_lt
  · exact .inl (eq_of_hits_of_priority_eq hr' hr hhits' hhits heq.symm)
  · exact .inr hlt

/-! ### The error-code rows -/

theorem exec_errInstr (code : Byte) (c : ErrorCode) (s : State) :
    exec (errInstr code c) s = .next (s.writeVariant (.error c)) := by
  cases c <;> rfl

/-- Settles O24: every row writes the Error variant of its code. -/
theorem errorRowsDeliverTheirCode : Obligations.ErrorRowsDeliverTheirCode :=
  fun c code st => exec_errInstr code c st

/-- Settles O26: PD.ERROR writes the Error variant of the first byte's code, as that code's row does. -/
theorem pdErrorAgreesWithErrorRows : Obligations.PdErrorAgreesWithErrorRows :=
  fun c _ s => (exec_errInstr c (errMap s.cfg.errTable c) s).symm

end Sys2Proof
end

section
/-! PROOF. The statements of spec/30_encoding.md about the layouts: the transmit report (R71) and the three payload
layouts of a received report (R74, R75, R76). -/

namespace Sys2Proof.Machine

/-! ### The transmit report -/

/-- `byte_k` of a channel id is its bits `8k + 7` to `8k` (spec/00_scope.md R8). -/
theorem byteOf_toNat_eq_extractLsb' {w : Nat} (k : Nat) (x : BitVec w) :
    byteOf k x.toNat = x.extractLsb' (8 * k) 8 := by
  rw [byteOf, BitVec.extractLsb', Nat.shiftRight_eq_div_pow]

/-- The report's first eight bytes (spec/30_encoding.md R71). -/
theorem encodeReport_header {cid : ChannelId} {cmd : Byte} {payload report : Bytes}
    (h : encodeReport cid cmd payload = some report) :
    report.take 8 =
      [0x00#8, cid.extractLsb' 24 8, cid.extractLsb' 16 8, cid.extractLsb' 8 8, cid.extractLsb' 0 8, cmd, 0x00#8,
        BitVec.ofNat 8 payload.length] := by
  obtain ⟨hle, rfl⟩ := encodeReport_eq_some h
  have hhigh : byteOf 1 payload.length = 0x00#8 := by
    rw [byteOf, Nat.div_eq_of_lt (by omega)]
  have hlow : byteOf 0 payload.length = BitVec.ofNat 8 payload.length := by
    rw [byteOf, Nat.mul_zero, Nat.pow_zero, Nat.div_one]
  simp only [be32Bytes, be16Bytes, byteOf_toNat_eq_extractLsb', hhigh, hlow]
  rfl

/-- Behind the header stands the payload (spec/30_encoding.md R71). -/
theorem encodeReport_payload {cid : ChannelId} {cmd : Byte} {payload report : Bytes}
    (h : encodeReport cid cmd payload = some report) {i : Nat} (hi : i < payload.length) :
    report[8 + i]? = payload[i]? := by
  obtain ⟨-, rfl⟩ := encodeReport_eq_some h
  rw [List.getElem?_append_left (by simp [be32Bytes, be16Bytes]; omega),
    List.getElem?_append_right (by simp [be32Bytes, be16Bytes])]
  simp [be32Bytes, be16Bytes]

/-- ENC of a payload that fits writes its report (spec/40_frame_codec.md R103). -/
theorem exec_enc_of_le (cid : ChannelId) (cmd : Byte) {payload : Bytes} (h : payload.length ≤ 57) (s : State) :
    ∃ report, encodeReport cid cmd payload = some report ∧
      exec (.enc cid cmd payload) s = .next (s.writeTx report) :=
  (execEnc_cases cid cmd payload s).resolve_right fun ⟨hnone, _⟩ =>
    absurd h (Nat.not_le.2 ((encodeReport_eq_none_iff cid cmd payload).1 hnone))

/-- Settles O5: the eight bytes of the header, the payload and the padding of the report ENC writes. -/
theorem transmitReportLayout : Obligations.TransmitReportLayout := by
  intro cid cmd payload s hle
  obtain ⟨report, henc, hexec⟩ := exec_enc_of_le cid cmd hle s
  have hlen := encodeReport_length henc
  have hheader (i : Nat) (hi : i < 8) : report[i]? = (report.take 8)[i]? := (List.getElem?_take_of_lt hi).symm
  rw [encodeReport_header henc] at hheader
  refine ⟨_, report, hexec, rfl, hlen, hheader 0 (by decide), hheader 1 (by decide), hheader 2 (by decide),
    hheader 3 (by decide), hheader 4 (by decide), hheader 5 (by decide), hheader 6 (by decide), hheader 7 (by decide),
    fun i => encodeReport_payload henc, fun i hi hlt => ?_⟩
  rw [List.getElem?_eq_getElem (by omega), encodeReport_padding henc hi]

/-! ### The received report -/

/-- DEC of a buffer whose declared length fits writes the frame stage and the variant of the region (R113, R114). -/
theorem exec_dec_of_present {raw : Bytes} {dlen : Nat} (h7 : 7 ≤ raw.length)
    (hdlen : dlen = (raw[5] ++ raw[6] : BitVec 16).toNat) (hpos : 1 ≤ dlen) (hfit : dlen ≤ raw.length - 7)
    (s : State) :
    ∃ f, exec (.dec raw) s =
      .next ((s.writeFrame f).writeVariant (pdec s.cfg.errTable raw[4] (some (slice raw 7 (7 + dlen))))) := by
  have hbe : be16 raw 5 (by omega) = dlen := by
    rw [hdlen, ← be16_eq_append raw 5 (by omega), fdec_dlen_toNat]
  have hpresent : regionPresent dlen raw.length := ⟨hpos, hfit⟩
  obtain ⟨f, hf, hexec⟩ := execDec_of_le h7 s
  rw [fdec_of_le h7, Option.some.injEq] at hf
  subst hf
  simp only [hbe, if_pos hpresent] at hexec
  exact ⟨_, hexec⟩

/-- The first bytes of a slice from `a` are the bytes of the buffer from `a`. -/
theorem slice_slice_zero {raw : Bytes} {a n k : Nat} (hk : k ≤ n) :
    slice (slice raw a (a + n)) 0 k = (raw.drop a).take k := by
  simp [slice, List.take_take, hk]

/-- The InitPayload of a region in its buffer, at the offsets of the layout (spec/30_encoding.md R74). -/
theorem parseInit_slice {raw : Bytes} {dlen : Nat} (h17 : 17 ≤ dlen) (hfit : 7 + dlen ≤ raw.length) :
    parseInit (slice raw 7 (7 + dlen)) =
      .init ((raw.drop 7).take 8) (raw[15] ++ raw[16] ++ raw[17] ++ raw[18] : BitVec 32) raw[19] raw[20] raw[21]
        raw[22] raw[23] := by
  have hlen : (slice raw 7 (7 + dlen)).length = 7 + dlen - 7 := slice_length hfit
  rw [parseInit_of_le (by omega), be32_eq_append, slice_slice_zero (by omega)]
  simp only [slice_getElem hfit, Nat.reduceAdd]

/-- The MessagePayload of a region in its buffer: the region's last bytes are those before index `7 + dlen`
(spec/30_encoding.md R75). -/
theorem parseMessage_slice {raw : Bytes} {dlen : Nat} (h2 : 2 ≤ dlen) (hfit : 7 + dlen ≤ raw.length) :
    parseMessage (slice raw 7 (7 + dlen)) =
      .message ((raw.drop 7).take (dlen - 2)) raw[5 + dlen] raw[6 + dlen] := by
  have hlen : (slice raw 7 (7 + dlen)).length = dlen := by rw [slice_length hfit]; omega
  have hsw1 : 7 + (dlen - 2) = 5 + dlen := by omega
  have hsw2 : 7 + (dlen - 1) = 6 + dlen := by omega
  rw [parseMessage_of_le (by omega), slice_slice_zero (by omega)]
  simp only [slice_getElem hfit, hlen, hsw1, hsw2]

/-- The ErrorPayload of a non-empty region in its buffer (spec/30_encoding.md R76). -/
theorem parseError_slice (table : List (Byte × ErrorCode)) {raw : Bytes} {dlen : Nat} (h1 : 1 ≤ dlen)
    (hfit : 7 + dlen ≤ raw.length) :
    parseError table (slice raw 7 (7 + dlen)) = .error (errMap table raw[7]) := by
  have hlen : (slice raw 7 (7 + dlen)).length = 7 + dlen - 7 := slice_length hfit
  have hfirst : (slice raw 7 (7 + dlen))[0] = raw[7] := slice_getElem hfit _
  cases h : slice raw 7 (7 + dlen) with
  | nil => simp [h] at hlen; omega
  | cons code rest => simp [parseError, ← hfirst, h]

theorem isOk_eq_decide (sw1 sw2 : Byte) : isOk sw1 sw2 = decide (sw1 = 0x90#8 ∧ sw2 = 0x00#8) := by
  simp [isOk, Bool.decide_and, beq_eq_decide]

/-- Settles O12: DEC writes the Init variant, whose fields stand at the layout's offsets. -/
theorem initFieldsFromRegion : Obligations.InitFieldsFromRegion := by
  intro raw s dlen h24 hdlen hcmd h17 hfit
  obtain ⟨f, hexec⟩ := exec_dec_of_present (by omega) hdlen (by omega) hfit s
  rw [hcmd, pdec_init, parseInit_slice h17 (by omega)] at hexec
  exact ⟨_, hexec, by simp⟩

/-- Settles O13: DEC writes the Message variant, whose status bytes are the region's last two. -/
theorem messageFieldsFromRegionEnd : Obligations.MessageFieldsFromRegionEnd := by
  intro raw s dlen h7 hdlen hcmd h2 hfit
  obtain ⟨f, hexec⟩ := exec_dec_of_present h7 hdlen (by omega) hfit s
  rw [hcmd, pdec_message, parseMessage_slice h2 (by omega)] at hexec
  refine ⟨_, raw[5 + dlen], raw[6 + dlen], hexec, List.getElem?_eq_getElem _, List.getElem?_eq_getElem _, ?_⟩
  simp [isOk_eq_decide]

/-- Settles O14: DEC writes the Error variant of the first byte's code under the machine's own map. -/
theorem errorCodeFromFirstByte : Obligations.ErrorCodeFromFirstByte := by
  intro raw s dlen h8 hdlen hcmd h1 hfit
  obtain ⟨f, hexec⟩ := exec_dec_of_present (by omega) hdlen h1 hfit s
  rw [hcmd, pdec_error, parseError_slice _ h1 (by omega)] at hexec
  exact ⟨_, hexec, by simp⟩

end Sys2Proof.Machine
end

section
/-! PROOF. The statements of spec/40_frame_codec.md: what ENC and DEC do to the state (R101 to R104, R110 to R115,
R117), and the round trip of a report through a loopback with its two exceptions (R118, R119). -/

namespace Sys2Proof.Machine

/-! ### ENC -/

/-- ENC of a payload that does not fit takes its fault (spec/40_frame_codec.md R101, R104). -/
theorem exec_enc_of_lt (cid : ChannelId) (cmd : Byte) {payload : Bytes} (h : 57 < payload.length) (s : State) :
    exec (.enc cid cmd payload) s = .next (s.takeFault .encOverlen) := by
  rw [exec_enc, State.afterEnc, encodeReport_of_lt h]

/-- The report as R102 writes it, byte by byte before the payload. -/
theorem encodeReport_eq_bytes {cid : ChannelId} {cmd : Byte} {payload report : Bytes}
    (h : encodeReport cid cmd payload = some report) :
    report =
      [0x00#8] ++
        [BitVec.ofNat 8 (cid.toNat / 2 ^ 24), BitVec.ofNat 8 (cid.toNat / 2 ^ 16),
          BitVec.ofNat 8 (cid.toNat / 2 ^ 8), BitVec.ofNat 8 cid.toNat] ++
        [cmd] ++ [BitVec.ofNat 8 (payload.length / 256), BitVec.ofNat 8 payload.length] ++ payload ++
        List.replicate (57 - payload.length) 0x00#8 := by
  have hlow (v : Nat) : byteOf 0 v = BitVec.ofNat 8 v := by rw [byteOf, Nat.mul_zero, Nat.pow_zero, Nat.div_one]
  obtain ⟨-, rfl⟩ := encodeReport_eq_some h
  rw [be32Bytes, be16Bytes, hlow, hlow]
  rfl

/-- Settles O4: the report R102 writes out, or the fault entry of ENC_OVERLEN. -/
theorem encWritesReportOrFaults : Obligations.EncWritesReportOrFaults := by
  intro cid cmd payload s
  constructor
  · intro hle
    obtain ⟨report, henc, hexec⟩ := exec_enc_of_le cid cmd hle s
    rw [hexec, ← encodeReport_eq_bytes henc]
    rfl
  · intro hgt
    rw [exec_enc_of_lt cid cmd hgt, State.takeFault_encOverlen_eq]

/-! ### DEC -/

/-- Settles O7: the fault entry of DEC_SHORT. -/
theorem decShortTakesFault : Obligations.DecShortTakesFault := by
  intro raw s hlt
  rw [exec_dec, State.afterDec, decodeReport_of_lt hlt, State.takeFault_decShort_eq]
  rfl

/-- The payload region of a buffer for a declared length (spec/40_frame_codec.md R113, R114). -/
def regionOf (raw : Bytes) (dlen : Nat) : Option Bytes :=
  if 0 < dlen ∧ dlen ≤ raw.length - 7 then some ((raw.drop 7).take dlen) else none

theorem regionOf_of_fits {raw : Bytes} {dlen : Nat} (h : 0 < dlen ∧ dlen ≤ raw.length - 7) :
    regionOf raw dlen = some ((raw.drop 7).take dlen) := if_pos h

theorem regionOf_of_not_fits {raw : Bytes} {dlen : Nat} (h : ¬ (0 < dlen ∧ dlen ≤ raw.length - 7)) :
    regionOf raw dlen = none := if_neg h

/-- FDEC of a buffer that has its header, each field the concatenation of its bytes (R112). -/
theorem fdec_eq_append {raw : Bytes} (h : 7 ≤ raw.length) :
    fdec raw =
      some
        { cid := (raw[0] ++ raw[1] ++ raw[2] ++ raw[3] : BitVec 32)
          cmd := raw[4]
          dlen := (raw[5] ++ raw[6] : BitVec 16)
          region := regionOf raw (raw[5] ++ raw[6] : BitVec 16).toNat } := by
  rw [fdec_of_le h, be32_eq_append, ← be16_eq_append raw 5 (by omega), fdec_dlen_toNat]
  simp only [regionOf, slice, Nat.add_sub_cancel_left]

/-- DEC of a buffer whose frame stage is known writes it and the variant PDEC gives for it (R117). -/
theorem exec_dec_of_fdec {raw : Bytes} {f : FrameStage} (h : fdec raw = some f) (s : State) :
    exec (.dec raw) s = .next ((s.writeFrame f).writeVariant (pdec s.cfg.errTable f.cmd f.region)) := by
  rw [exec_dec, State.afterDec, decodeReport_of_le h]

/-- Settles O8: the frame stage holds the concatenations. -/
theorem decReadsHeader : Obligations.DecReadsHeader :=
  fun _ s h => ⟨_, exec_dec_of_fdec (fdec_eq_append h) s, by simp⟩

/-- Settles O9: by the two cases of the length test. -/
theorem regionPresentIffLengthFits : Obligations.RegionPresentIffLengthFits := by
  rintro raw s dlen h rfl
  refine ⟨_, exec_dec_of_fdec (fdec_eq_append h) s, fun hfits => ?_, fun hnot => ?_⟩
  · rw [regionOf_of_fits hfits]
    simpa using hfits.2
  · rw [regionOf_of_not_fits hnot]
    simp

/-- Settles O10: the frame stage is read off field by field, the payload stage variant by variant. -/
theorem decComposesStages : Obligations.DecComposesStages := by
  intro raw s h
  refine ⟨_, regionOf raw _, _, exec_dec_of_fdec (fdec_eq_append h) s, rfl, rfl, ?_⟩
  cases pdec s.cfg.errTable raw[4] (regionOf raw (raw[5] ++ raw[6] : BitVec 16).toNat) <;>
    simp [isOk_eq_decide]

/-- A region that fits is read from the buffer's first `7 + dlen` bytes, one that does not from none (R115). -/
theorem regionOf_congr {raw raw' : Bytes} {dlen : Nat} (hlen : raw'.length = raw.length)
    (h : 0 < dlen ∧ dlen ≤ raw.length - 7 → raw'.take (7 + dlen) = raw.take (7 + dlen)) :
    regionOf raw' dlen = regionOf raw dlen := by
  by_cases hfits : 0 < dlen ∧ dlen ≤ raw.length - 7
  · have hregion := congrArg (List.drop 7) (h hfits)
    rw [List.drop_take, List.drop_take, Nat.add_sub_cancel_left] at hregion
    rw [regionOf_of_fits hfits, regionOf_of_fits (by rwa [hlen]), hregion]
  · rw [regionOf_of_not_fits hfits, regionOf_of_not_fits (by rwa [hlen])]

/-- The frame stage is a function of the header and the region (R112 to R114). -/
theorem fdec_congr {raw raw' : Bytes} (h : 7 ≤ raw.length) (h' : 7 ≤ raw'.length)
    (hheader : raw'.take 7 = raw.take 7)
    (hregion : regionOf raw' (raw[5] ++ raw[6] : BitVec 16).toNat = regionOf raw (raw[5] ++ raw[6] : BitVec 16).toNat) :
    fdec raw' = fdec raw := by
  have hbyte (i : Nat) (hi : i < 7) : raw'[i] = raw[i] := by
    have htake : (raw'.take 7)[i]? = (raw.take 7)[i]? := by rw [hheader]
    rwa [List.getElem?_take_of_lt hi, List.getElem?_take_of_lt hi, List.getElem?_eq_getElem, List.getElem?_eq_getElem,
      Option.some.injEq] at htake
  rw [fdec_eq_append h, fdec_eq_append h']
  simp only [hbyte 0, hbyte 1, hbyte 2, hbyte 3, hbyte 4, hbyte 5, hbyte 6, Nat.reduceLT, hregion]

/-- Settles O17: buffers with one header and one region have one frame stage. -/
theorem bytesOutsideRegionIgnored : Obligations.BytesOutsideRegionIgnored := by
  intro raw raw' s dlen h hdlen hlen hheader hagree
  have hregion : regionOf raw' dlen = regionOf raw dlen := regionOf_congr hlen hagree
  rw [hdlen] at hregion
  have hfdec : fdec raw' = fdec raw := fdec_congr h (h.trans hlen.ge) hheader hregion
  rw [exec_dec_of_fdec (hfdec.trans (fdec_eq_append h)), exec_dec_of_fdec (fdec_eq_append h)]

/-! ### The payload-stage row -/

/-- PDEC yields Unknown for a region that no other row of the command map admits (spec/41_payload_decoder.md R139). -/
theorem pdec_of_wellFormed_pdUnknownOther {table : List (Byte × ErrorCode)} {cmd : Byte} {region : Bytes}
    (h : (Instr.pdUnknownOther cmd region).wellFormed = true) : pdec table cmd (some region) = .unknown := by
  obtain ⟨hinit, hmsg, herr⟩ := (wellFormed_pdUnknownOther_iff cmd region).1 h
  by_cases hcmdInit : cmd = 0x86#8
  · subst hcmdInit
    exact parseInit_of_lt (Nat.not_le.1 fun hle => hinit ⟨rfl, hle⟩)
  by_cases hcmdMsg : cmd = 0x83#8
  · subst hcmdMsg
    exact parseMessage_of_lt (Nat.not_le.1 fun hle => hmsg ⟨rfl, hle⟩)
  exact pdec_other region hcmdInit hcmdMsg herr

/-- The row the command map selects writes PDEC's variant (spec/30_encoding.md R78). -/
theorem exec_decodePayload (cmd : Byte) (region : Option Bytes) (s : State) :
    exec (decodePayload cmd region) s = .next (s.writeVariant (pdec s.cfg.errTable cmd region)) := by
  cases region with
  | none => rfl
  | some r =>
    rw [decodePayload_some]
    split_ifs with hinit hmsg herr
    · rw [hinit.1]; rfl
    · rw [hmsg.1]; rfl
    · rw [herr]; rfl
    · rw [pdec_of_wellFormed_pdUnknownOther ((wellFormed_pdUnknownOther_iff cmd r).2 ⟨hinit, hmsg, herr⟩)]
      rfl

/-- Settles O25: the selected row writes PDEC's variant over the frame stage. -/
theorem decIsFrameStageThenSelectedRow : Obligations.DecIsFrameStageThenSelectedRow :=
  fun _ s f hf => (exec_dec_of_fdec hf s).trans (exec_decodePayload f.cmd f.region (s.writeFrame f)).symm

/-! ### The round trip -/

/-- Behind the eight bytes of its header the report is the payload and its padding (R102). -/
theorem encodeReport_drop_header {cid : ChannelId} {cmd : Byte} {payload report : Bytes}
    (h : encodeReport cid cmd payload = some report) : report.drop 8 = payload ++ zeros (57 - payload.length) := by
  obtain ⟨-, rfl⟩ := encodeReport_eq_some h
  rw [List.append_assoc]
  rfl

/-- FDEC recovers from `TXBUF[1..65]` what ENC was given; only the empty payload has no region (R118, R119). -/
theorem fdec_loopback {cid : ChannelId} {cmd : Byte} {payload report : Bytes}
    (h : encodeReport cid cmd payload = some report) :
    fdec (slice report 1 txLen) =
      some
        { cid := cid, cmd := cmd, dlen := BitVec.ofNat 16 payload.length
          region := if 0 < payload.length then some payload else none } := by
  obtain ⟨hle, hreport⟩ := encodeReport_eq_some h
  have hlen : (slice report 1 txLen).length = 64 := slice_length (encodeReport_length h).ge
  have hcid : be32 (slice report 1 txLen) 0 (by omega) = cid.toNat := by
    subst hreport
    exact be32_of_bytes _ cid.isLt rfl rfl rfl rfl
  have hcmd : (slice report 1 txLen)[4] = cmd := by
    subst hreport
    rfl
  have hdlen : be16 (slice report 1 txLen) 5 (by omega) = payload.length := by
    subst hreport
    exact be16_of_bytes _ (by omega) rfl rfl
  have hregion : slice (slice report 1 txLen) 7 (7 + payload.length) = payload := by
    simp [slice, List.drop_take, List.take_take, encodeReport_drop_header h, hle]
  have hpresent : regionPresent payload.length 64 ↔ 0 < payload.length := and_iff_left hle
  rw [fdec_of_le (by omega)]
  simp only [hlen, hcid, hcmd, hdlen, hregion, hpresent, BitVec.ofNat_toNat, BitVec.setWidth_eq]

/-- Settles O27: the region of a non-empty payload is the payload. -/
theorem roundTripThroughLoopback : Obligations.RoundTripThroughLoopback := by
  intro cid cmd payload s hpos hle
  obtain ⟨report, henc, hexec⟩ := exec_enc_of_le cid cmd hle s
  have hfdec := fdec_loopback henc
  rw [if_pos (show 0 < payload.length from hpos)] at hfdec
  exact ⟨_, _, _, hexec, rfl, exec_dec_of_fdec hfdec _, by simp [State.heldVariant_writeVariant]⟩

/-- Settles O28: the empty payload has no region. -/
theorem emptyPayloadDecodesAbsent : Obligations.EmptyPayloadDecodesAbsent := by
  intro cid cmd s
  obtain ⟨report, henc, hexec⟩ := exec_enc_of_le cid cmd (payload := []) (Nat.zero_le _) s
  exact ⟨_, _, _, hexec, rfl, exec_dec_of_fdec (fdec_loopback henc) _, by simp⟩

/-- The report id and the first three bytes of the channel id, read as a channel id (R119). -/
theorem encodeReport_be32_zero {cid : ChannelId} {cmd : Byte} {payload report : Bytes}
    (h : encodeReport cid cmd payload = some report) (h3 : 0 + 3 < report.length) :
    be32 report 0 h3 = cid.toNat / 256 := by
  obtain ⟨-, rfl⟩ := encodeReport_eq_some h
  change reportId.toNat * 2 ^ 24 + (byteOf 3 cid.toNat).toNat * 2 ^ 16 + (byteOf 2 cid.toNat).toNat * 2 ^ 8 +
    (byteOf 1 cid.toNat).toNat = cid.toNat / 256
  have hcid := cid.isLt
  rw [byteOf_toNat, byteOf_toNat, byteOf_toNat, BitVec.toNat_ofNat]
  omega

/-- The command byte and the high byte of the length field, which is zero, read as a declared length (R119). -/
theorem encodeReport_be16_five {cid : ChannelId} {cmd : Byte} {payload report : Bytes}
    (h : encodeReport cid cmd payload = some report) (h6 : 5 + 1 < report.length) :
    be16 report 5 h6 = cmd.toNat * 256 := by
  obtain ⟨hle, rfl⟩ := encodeReport_eq_some h
  change cmd.toNat * 256 + (byteOf 1 payload.length).toNat = cmd.toNat * 256
  rw [byteOf_toNat]
  omega

/-- FDEC of all 65 bytes reads every field one byte early; a declared length of `cmd · 256` never fits (R119). -/
theorem fdec_encodeReport {cid : ChannelId} {cmd : Byte} {payload report : Bytes}
    (h : encodeReport cid cmd payload = some report) :
    fdec report =
      some
        { cid := BitVec.ofNat 32 (cid.toNat / 256), cmd := BitVec.ofNat 8 cid.toNat
          dlen := BitVec.ofNat 16 (cmd.toNat * 256), region := none } := by
  have hlen := encodeReport_length h
  have hcmd : report[4] = BitVec.ofNat 8 cid.toNat := by
    obtain rfl := encodeReport_eq_bytes h
    rfl
  have habsent : ¬ regionPresent (cmd.toNat * 256) 65 := by
    simp only [regionPresent, rxHdr]
    omega
  rw [fdec_of_le (by omega)]
  simp only [hlen, encodeReport_be32_zero h, hcmd, encodeReport_be16_five h, if_neg habsent]

/-- Settles O29: the shifted frame stage has no region, whatever the command byte. -/
theorem unstrippedReportDecodesShifted : Obligations.UnstrippedReportDecodesShifted := by
  intro cid cmd payload s hle
  obtain ⟨report, henc, hexec⟩ := exec_enc_of_le cid cmd hle s
  exact ⟨_, _, report, hexec, rfl, exec_dec_of_fdec (fdec_encodeReport henc) _, by simp⟩

end Sys2Proof.Machine
end

section
/-! PROOF. The statements of spec/41_payload_decoder.md: the dispatch of PDEC arm by arm (R131), the payload-stage rows
run on their own (R132 to R138), and the variant DEC chooses by the length test, the command byte and the declared
length (R139 to R141). -/

namespace Sys2Proof.Machine

/-! ### The dispatch of PDEC -/

/-- The InitPayload's fields at the layout's offsets, the channel id a concatenation of its bytes (R132). -/
theorem parseInit_eq_append {s : Bytes} (h : 17 ≤ s.length) :
    parseInit s =
      .init (s.take 8) (s[8] ++ s[9] ++ s[10] ++ s[11] : BitVec 32) s[12] s[13] s[14] s[15] s[16] := by
  rw [parseInit_of_le h, be32_eq_append]
  rfl

/-- Settles O19: one arm of the dispatch after the other. -/
theorem pdecDispatch : Obligations.PdecDispatch := by
  refine fun table cmd => ⟨pdec_absent table cmd, fun s => ⟨?_, ?_, ?_, ?_, ?_, pdec_other s⟩⟩
  · rintro h rfl
    exact parseInit_eq_append h
  · rintro rfl h
    exact parseInit_of_lt h
  · rintro h rfl
    exact parseMessage_of_le h
  · rintro rfl h
    exact parseMessage_of_lt h
  · rintro rfl
    cases s <;> rfl

/-! ### The payload-stage rows on their own -/

theorem exec_pdInit (region : Bytes) (s : State) :
    exec (.pdInit region) s = .next (s.writeVariant (parseInit region)) := rfl

theorem exec_pdMsg (region : Bytes) (s : State) :
    exec (.pdMsg region) s = .next (s.writeVariant (parseMessage region)) := rfl

/-- Settles O20: PD.INIT writes the variant of its length test. -/
theorem pdInitWritesInitOrUnknown : Obligations.PdInitWritesInitOrUnknown := by
  refine fun s st => ⟨fun h => ?_, fun h => ?_⟩
  · rw [exec_pdInit, parseInit_eq_append h]
    rfl
  · rw [exec_pdInit, parseInit_of_lt h]
    rfl

/-- Settles O21: PD.MSG writes the variant of its length test. -/
theorem pdMsgWritesMessageOrUnknown : Obligations.PdMsgWritesMessageOrUnknown := by
  refine fun s st => ⟨fun h => ?_, fun h => ?_⟩
  · rw [exec_pdMsg, parseMessage_of_le h, ← isOk_eq_decide]
    rfl
  · rw [exec_pdMsg, parseMessage_of_lt h]
    rfl

/-- Settles O22: an empty region has no first byte, every other region has one. -/
theorem pdErrorWritesCode : Obligations.PdErrorWritesCode := by
  intro s st
  cases s with
  | nil => rfl
  | cons code rest => rfl

/-- Settles O23: neither row reads its operands. -/
theorem pdUnknownWritesNoField : Obligations.PdUnknownWritesNoField := by
  rintro i st (⟨cmd, rfl⟩ | ⟨cmd, region, rfl⟩)
  · rfl
  · rfl

/-! ### The tag of the variant PDEC yields -/

/-- The tag PDEC gives a present region of `n` bytes (R131). -/
def presentTag (cmd : Byte) (n : Nat) : Variant :=
  if cmd = 0x86#8 then if 17 ≤ n then .init else .unknown
  else if cmd = 0x83#8 then if 2 ≤ n then .message else .unknown
  else if cmd = 0xBF#8 then .error
  else .unknown

theorem variantTag_parseInit (s : Bytes) : variantTag (parseInit s) = if 17 ≤ s.length then .init else .unknown := by
  split_ifs with h
  · rw [parseInit_of_le h]; rfl
  · rw [parseInit_of_lt (Nat.not_le.1 h)]; rfl

theorem variantTag_parseMessage (s : Bytes) :
    variantTag (parseMessage s) = if 2 ≤ s.length then .message else .unknown := by
  split_ifs with h
  · rw [parseMessage_of_le h]; rfl
  · rw [parseMessage_of_lt (Nat.not_le.1 h)]; rfl

theorem variantTag_parseError (table : List (Byte × ErrorCode)) (s : Bytes) :
    variantTag (parseError table s) = .error := by
  cases s <;> rfl

/-- Of a present region the tag depends on the length alone, whatever the map and the bytes. -/
theorem variantTag_pdec_some (table : List (Byte × ErrorCode)) (cmd : Byte) (s : Bytes) :
    variantTag (pdec table cmd (some s)) = presentTag cmd s.length := by
  unfold presentTag
  split_ifs with hinit h17 hmsg h2 herr
  · rw [hinit, pdec_init, variantTag_parseInit, if_pos h17]
  · rw [hinit, pdec_init, variantTag_parseInit, if_neg h17]
  · rw [hmsg, pdec_message, variantTag_parseMessage, if_pos h2]
  · rw [hmsg, pdec_message, variantTag_parseMessage, if_neg h2]
  · rw [herr, pdec_error, variantTag_parseError]
  · rw [pdec_other s hinit hmsg herr]; rfl

theorem presentTag_eq_init_iff (cmd : Byte) (n : Nat) : presentTag cmd n = .init ↔ cmd = 0x86#8 ∧ 17 ≤ n := by
  unfold presentTag
  split_ifs <;> simp [*]

theorem presentTag_eq_message_iff (cmd : Byte) (n : Nat) : presentTag cmd n = .message ↔ cmd = 0x83#8 ∧ 2 ≤ n := by
  unfold presentTag
  split_ifs <;> simp [*]

theorem presentTag_eq_error_iff (cmd : Byte) (n : Nat) : presentTag cmd n = .error ↔ cmd = 0xBF#8 := by
  unfold presentTag
  split_ifs <;> simp [*]

/-- The cases (b) to (d) of R139. -/
theorem presentTag_eq_unknown_iff (cmd : Byte) (n : Nat) :
    presentTag cmd n = .unknown ↔
      (cmd = 0x86#8 ∧ n < 17) ∨ (cmd = 0x83#8 ∧ n < 2) ∨ (cmd ≠ 0x86#8 ∧ cmd ≠ 0x83#8 ∧ cmd ≠ 0xBF#8) := by
  unfold presentTag
  split_ifs <;> simp_all
  omega

theorem eq_unknown_of_variantTag {v : PayloadVariant} (h : variantTag v = .unknown) : v = .unknown := by
  cases v
  case unknown => rfl
  all_goals cases h

/-! ### The state after DEC -/

theorem isSome_regionOf (raw : Bytes) (dlen : Nat) :
    (regionOf raw dlen).isSome = decide (0 < dlen ∧ dlen ≤ raw.length - 7) := by
  by_cases h : 0 < dlen ∧ dlen ≤ raw.length - 7
  · rw [regionOf_of_fits h, decide_eq_true h, Option.isSome_some]
  · rw [regionOf_of_not_fits h, decide_eq_false h, Option.isSome_none]

/-- The tag of the region DEC finds, by the length test, the command byte and the declared length (R141). -/
theorem variantTag_pdec_regionOf (table : List (Byte × ErrorCode)) (cmd : Byte) (raw : Bytes) (dlen : Nat) :
    variantTag (pdec table cmd (regionOf raw dlen)) =
      if 0 < dlen ∧ dlen ≤ raw.length - 7 then presentTag cmd dlen else .unknown := by
  split_ifs with h
  · have hlen : ((raw.drop 7).take dlen).length = dlen := by simpa using h.2
    rw [regionOf_of_fits h, variantTag_pdec_some, hlen]
  · rw [regionOf_of_not_fits h, pdec_absent]
    rfl

/-- Settles O11: the four rows of a present region are the tag's own four. -/
theorem decDecisionTable : Obligations.DecDecisionTable := by
  rintro raw s dlen h rfl
  refine ⟨_, exec_dec_of_fdec (fdec_eq_append h) s, ?_⟩
  simp only [State.writeVariant_rVar, State.writeVariant_rRv, State.writeFrame_rRv, isSome_regionOf,
    variantTag_pdec_regionOf, Option.some.injEq]
  generalize (raw[5] ++ raw[6] : BitVec 16).toNat = dlen
  by_cases hfits : 0 < dlen ∧ dlen ≤ raw.length - 7
  · rw [if_neg (not_not_intro hfits), if_pos hfits]
    refine ⟨decide_eq_true hfits, ?_⟩
    split_ifs with hinit h16 hmsg h1 herr
    · exact (presentTag_eq_unknown_iff _ _).2 (.inl ⟨hinit, by omega⟩)
    · exact (presentTag_eq_init_iff _ _).2 ⟨hinit, by omega⟩
    · exact (presentTag_eq_unknown_iff _ _).2 (.inr (.inl ⟨hmsg, by omega⟩))
    · exact (presentTag_eq_message_iff _ _).2 ⟨hmsg, by omega⟩
    · exact (presentTag_eq_error_iff _ _).2 herr
    · exact (presentTag_eq_unknown_iff _ _).2 (.inr (.inr ⟨hinit, hmsg, herr⟩))
  · rw [if_pos hfits, if_neg hfits]
    exact ⟨decide_eq_false hfits, rfl⟩

/-- Settles O16: an absent region gives case (a), a present one the cases of its tag; a variant with the tag UNKNOWN
has no field. -/
theorem unknownInExactlyFourCases : Obligations.UnknownInExactlyFourCases := by
  rintro raw s dlen h rfl
  refine ⟨_, exec_dec_of_fdec (fdec_eq_append h) s, by simp, ?_, fun hunknown => ?_⟩
  · rw [State.writeVariant_rVar, Option.some.injEq, variantTag_pdec_regionOf]
    split_ifs with hfits
    · rw [presentTag_eq_unknown_iff, or_iff_right (not_not_intro hfits)]
    · exact iff_of_true rfl (.inl hfits)
  · rw [State.writeVariant_rVar, Option.some.injEq] at hunknown
    rw [eq_unknown_of_variantTag hunknown]
    simpa [isSome_regionOf] using fun hpos hle => regionOf_of_fits ⟨hpos, hle⟩

/-- Settles O18: an absent region has the tag UNKNOWN, a present one the tag of its declared length. -/
theorem variantsParseIff : Obligations.VariantsParseIff := by
  intro raw s h
  refine ⟨_, raw[5] ++ raw[6], exec_dec_of_fdec (fdec_eq_append h) s, by simp, ?_⟩
  simp only [State.writeVariant_rVar, State.writeVariant_rRv, State.writeVariant_rCmd, State.writeFrame_rRv,
    State.writeFrame_rCmd, isSome_regionOf, variantTag_pdec_regionOf, Option.some.injEq, decide_eq_true_eq]
  split_ifs with hfits
  · simp only [hfits, true_and]
    exact ⟨presentTag_eq_init_iff _ _, presentTag_eq_message_iff _ _, presentTag_eq_error_iff _ _⟩
  · simp [hfits]

end Sys2Proof.Machine
end

section
/-! PROOF. The statements of spec/60_exceptions.md: what every instruction does to `FAULT` (R160), the command a step
performs (R173), and the sticky bits of a run without RST (R164). -/

namespace Sys2Proof.Machine

/-! ### What an instruction does to `FAULT` and to the waiting commands -/

/-- What one instruction can do: a host command's effect, or the variant that a row of the payload stage or of the
error-code map writes (spec/41_payload_decoder.md R138). -/
theorem effect_of_exec {i : Instr} {s t : State} (h : exec i s = .next t) :
    s.HostEffect t ∨ ∃ v, t = s.writeVariant v := by
  cases i
  case idle =>
    cases h
    exact .inl .idle
  case enc cid cmd payload =>
    cases (exec_enc cid cmd payload s).symm.trans h
    exact .inl (.enc cid cmd payload)
  case dec raw =>
    cases (exec_dec raw s).symm.trans h
    exact .inl (.dec raw)
  case rst =>
    cases h
    exact .inl .rst
  all_goals
    cases h
    exact .inr ⟨_, rfl⟩

/-- No instruction writes the waiting commands (log 1, log 12). -/
theorem pending_eq_of_exec {i : Instr} {s t : State} (h : exec i s = .next t) : t.pending = s.pending := by
  obtain heffect | ⟨v, rfl⟩ := effect_of_exec h
  · exact heffect.pending_eq
  · exact s.writeVariant_pending v

theorem State.afterEnc_fault (s : State) (cid : ChannelId) (cmd : Byte) (payload : Bytes) :
    (s.afterEnc cid cmd payload).fault = if 57 < payload.length then s.fault ||| 0b01#2 else s.fault := by
  unfold State.afterEnc
  split_ifs with h
  · rw [encodeReport_of_lt h]
    rfl
  · rw [encodeReport_of_le (Nat.not_lt.1 h)]
    rfl

theorem State.afterDec_fault (s : State) (raw : Bytes) :
    (s.afterDec raw).fault = if raw.length < 7 then s.fault ||| 0b10#2 else s.fault := by
  unfold State.afterDec
  split_ifs with h
  · rw [decodeReport_of_lt h]
    rfl
  · rw [decodeReport_of_le (fdec_of_le (Nat.not_lt.1 h))]
    exact State.writeVariant_fault _ _

/-- Settles O30: ENC and DEC by their length tests; the rows that are no host command write a variant alone. -/
theorem onlyTwoFaults : Obligations.OnlyTwoFaults := by
  intro i s t h
  cases i
  case idle | rst =>
    cases h
    rfl
  case enc cid cmd payload =>
    cases (exec_enc cid cmd payload s).symm.trans h
    exact s.afterEnc_fault cid cmd payload
  case dec raw =>
    cases (exec_dec raw s).symm.trans h
    exact s.afterDec_fault raw
  all_goals
    cases h
    exact s.writeVariant_fault _

/-- RST alone clears a bit of `FAULT` (spec/10_state.md R28). -/
theorem fault_subset_of_exec {i : Instr} {s t : State} (hi : i ≠ .rst) (h : exec i s = .next t) :
    s.fault &&& t.fault = s.fault := by
  have hfault := onlyTwoFaults i s t h
  cases i
  case rst => contradiction
  case enc cid cmd payload =>
    cases (exec_enc cid cmd payload s).symm.trans h
    exact s.fault_subset_afterEnc cid cmd payload
  case dec raw =>
    cases (exec_dec raw s).symm.trans h
    exact s.fault_subset_afterDec raw
  all_goals exact hfault ▸ BitVec.and_self

/-! ### The command a step performs -/

theorem step_of_pending_cons {s : State} {q : Request} {rest : List Request} (h : s.pending = q :: rest) :
    step s = exec (decodeUnder s.cfg.errTable q) { s with pending := rest } := by
  rw [step, State.takeCommand_cons h]

theorem step_of_pending_nil {s : State} (h : s.pending = []) : step s = .next s := by
  rw [step, State.takeCommand_nil h]
  rfl

/-- Only an error-code request is decoded under the map (spec/00_scope.md R6). -/
theorem decodeUnder_eq_decode {q : Request} (h : q.rowFormat ≠ .err8) (table : List (Byte × ErrorCode)) :
    decodeUnder table q = decode q := by
  cases q with
  | host | payload => rfl
  | errCode => exact absurd rfl h

theorem decodeUnder_encode {i : Instr} {table : List (Byte × ErrorCode)} (hwf : i.wellFormed = true)
    (hmap : table = defaultErrTable ∨ (encode i).rowFormat ≠ .err8) : decodeUnder table (encode i) = i := by
  obtain rfl | hformat := hmap
  · exact decodeEncodeAgree i hwf
  · exact (decodeUnder_eq_decode hformat table).trans (decodeEncodeAgree i hwf)

/-- Settles O41: the head is decoded under the machine's map, which decodes an encoding back. -/
theorem stepRunsNextCommand : Obligations.StepRunsNextCommand := by
  refine fun s => ⟨fun _ _ hp => step_of_pending_cons hp, fun i rest hwf hmap hp => ?_, step_of_pending_nil⟩
  rw [step_of_pending_cons hp, decodeUnder_encode hwf hmap]

/-! ### Runs without RST -/

/-- A property that every step keeps holds at the end of a run from a state that has it. -/
theorem run_keeps {M : Host.Core} {P : M.State → Prop} (hstep : ∀ {s t}, P s → M.step s = .next t → P t) {k : Nat}
    {s t : M.State} (hs : P s) (h : M.run k s = .next t) : P t := by
  induction k generalizing s with
  | zero =>
    cases h
    exact hs
  | succ k ih =>
    rw [Host.Core.run] at h
    split at h
    · next hnext => exact ih (hstep hs hnext) h
    · cases h
    · cases h

theorem errInstr_ne_rst (code : Byte) (c : ErrorCode) : errInstr code c ≠ .rst := by
  cases c <;> exact nofun

/-- Whether a request selects RST does not depend on the map: no error-code request does. -/
theorem decodeUnder_ne_rst {q : Request} (h : decode q ≠ .rst) (table : List (Byte × ErrorCode)) :
    decodeUnder table q ≠ .rst := by
  cases q with
  | host | payload => exact h
  | errCode code => exact errInstr_ne_rst code _

/-- A step with no RST waiting keeps every bit of `FAULT`, and no RST waits after it. -/
theorem fault_subset_of_step {s t : State} (hno : s.noReset) (h : step s = .next t) :
    s.fault &&& t.fault = s.fault ∧ t.noReset := by
  cases hp : s.pending with
  | nil =>
    cases (step_of_pending_nil hp).symm.trans h
    exact ⟨BitVec.and_self, hno⟩
  | cons q rest =>
    rw [State.noReset, hp, List.all_cons, Bool.and_eq_true, bne_iff_ne] at hno
    obtain ⟨hq, hrest⟩ := hno
    rw [step_of_pending_cons hp] at h
    have hkeeps := fault_subset_of_exec (decodeUnder_ne_rst hq _) h
    refine ⟨hkeeps, ?_⟩
    rwa [State.noReset, pending_eq_of_exec h]

/-- The state has every `FAULT` bit of `s`, and no RST waits in it. -/
def State.KeepsFault (s t : State) : Prop := s.fault &&& t.fault = s.fault ∧ t.noReset

theorem State.KeepsFault.step {s t u : State} (h : s.KeepsFault t) (hstep : step t = .next u) : s.KeepsFault u := by
  obtain ⟨hst, hno⟩ := h
  obtain ⟨htu, hno'⟩ := fault_subset_of_step hno hstep
  refine ⟨?_, hno'⟩
  calc s.fault &&& u.fault
    _ = s.fault &&& t.fault &&& u.fault := by rw [hst]
    _ = s.fault &&& (t.fault &&& u.fault) := BitVec.and_assoc ..
    _ = s.fault := by rw [htu, hst]

/-- Settles O31: every step of the run keeps the bits set at its start. -/
theorem faultNeverForgottenInRun : Obligations.FaultNeverForgottenInRun := by
  intro k s t hno hrun
  obtain ⟨hkeeps, -⟩ : s.KeepsFault t := run_keeps (M := core) State.KeepsFault.step ⟨BitVec.and_self, hno⟩ hrun
  refine ⟨hkeeps, fun hgood => ?_⟩
  rw [State.good, ← hkeeps, hgood, BitVec.and_zero]

end Sys2Proof.Machine
end

section
/-! PROOF. The statements of spec/70_reset_and_hazards.md: reset and idle (R180, R181), the step that always completes
(R182, R194), and the width the encode length test needs (R188). -/

namespace Sys2Proof.Machine

/-! ### Reset and idle -/

/-- RST leaves in every element what power-on leaves there; the parameters and the waiting commands, which it keeps, are
no elements (spec/70_reset_and_hazards.md R182, log 12). -/
theorem State.element_resetElements (s : State) (e : Element) : s.resetElements.element e = State.reset.element e := by
  cases e <;> rfl

/-- Settles O2: RST overwrites every element, and every other instruction only adds to `FAULT`. -/
theorem rstRestoresReset : Obligations.RstRestoresReset := by
  refine ⟨fun _ _ _ _ => rfl, fun s => ⟨s.resetElements, exec_rst s, ?_⟩, fun _ _ _ => fault_subset_of_exec⟩
  simp [State.element_resetElements]

/-- Settles O3: neither the decoder nor the idle select reads an operand port. -/
theorem idleChangesNothing : Obligations.IdleChangesNothing :=
  fun _ _ _ _ _ => ⟨rfl, rfl⟩

/-! ### Completion -/

/-- No instruction is refused or stops the machine (spec/70_reset_and_hazards.md R194). -/
theorem exec_completes (i : Instr) (s : State) : ∃ t, exec i s = .next t := by
  cases i
  case enc cid cmd payload => exact ⟨_, exec_enc cid cmd payload s⟩
  case dec raw => exact ⟨_, exec_dec raw s⟩
  all_goals exact ⟨_, rfl⟩

theorem State.HostEffect.cfg_eq {s t : State} (h : s.HostEffect t) : t.cfg = s.cfg := by
  cases h with
  | idle => rfl
  | enc cid cmd payload => exact (s.sameRx_afterEnc cid cmd payload).cfg_eq
  | dec raw => exact s.afterDec_cfg raw
  | rst => rfl

/-- No instruction writes the parameters, RST included (spec/70_reset_and_hazards.md R182). -/
theorem cfg_eq_of_exec {i : Instr} {s t : State} (h : exec i s = .next t) : t.cfg = s.cfg := by
  obtain heffect | ⟨v, rfl⟩ := effect_of_exec h
  · exact heffect.cfg_eq
  · exact s.writeVariant_cfg v

/-- Settles O42: the command is taken off the waiting ones, and performing it completes and writes neither field. -/
theorem everyStepCompletes : Obligations.EveryStepCompletes := by
  intro s
  obtain ⟨t, ht⟩ := exec_completes s.takeCommand.1 s.takeCommand.2
  exact ⟨t, ht, (cfg_eq_of_exec ht).trans s.takeCommand_cfg, (pending_eq_of_exec ht).trans s.takeCommand_pending⟩

/-! ### The width of the encode length test -/

/-- An adder of `v` bits makes the test on the sum modulo `2 ^ v`. -/
theorem encOverlongByAdder_eq (v n : Nat) : encOverlongByAdder v n = decide (65 < (n + 8) % 2 ^ v) := by
  rw [encOverlongByAdder, ← BitVec.ofNat_add, BitVec.toNat_ofNat]

/-- With one bit more than the length the sum does not wrap, save for lengths of fewer than 3 bits, where it is below
66 wrapped or not (spec/70_reset_and_hazards.md R188). -/
theorem lt_add_mod_two_pow_iff {w v n : Nat} (hn : n < 2 ^ w) (hv : w + 1 ≤ v) :
    65 < (n + 8) % 2 ^ v ↔ 57 < n := by
  by_cases hw : 3 ≤ w
  · have h8 : 2 ^ 3 ≤ 2 ^ w := Nat.pow_le_pow_right Nat.two_pos hw
    have hdouble : 2 ^ (w + 1) ≤ 2 ^ v := Nat.pow_le_pow_right Nat.two_pos hv
    rw [Nat.mod_eq_of_lt (by omega)]
    omega
  · have h8 : 2 ^ w ≤ 2 ^ 3 := Nat.pow_le_pow_right Nat.two_pos (by omega)
    have hsum : (n + 8) % 2 ^ v ≤ n + 8 := Nat.mod_le _ _
    omega

/-- Settles O6: the wider adder's sum does not wrap past the bound, and in 16 bits the sums of the rule's examples are
0 and 7. -/
theorem encTestNeedsOneMoreBit : Obligations.EncTestNeedsOneMoreBit := by
  refine ⟨fun w v n hn hv => ?_, ?_, ?_⟩
  · rw [encOverlongByAdder_eq, decide_eq_decide]
    exact lt_add_mod_two_pow_iff hn hv
  · rw [encOverlongByAdder_eq]
    decide
  · rw [encOverlongByAdder_eq]
    decide

end Sys2Proof.Machine
end
